-- ==== Sys2Proof/Word.lean ====
section
/-! DEFINITION. The words and small index types every layer shares. -/

namespace Sys2Proof

/-- One character of a line, without its mark bit (R162). -/
abbrev Byte := BitVec 8

/-- A belt position: counts modulo 2^24 (R3). -/
abbrev Pos := BitVec 24

/-- The number of a bay or of a spur: 0, 1 or 2 (00_scope.md, Indices). -/
inductive Ix
  | i0 | i1 | i2
deriving DecidableEq, Repr

namespace Ix

def toNat : Ix → Nat
  | i0 => 0
  | i1 => 1
  | i2 => 2

def ofNat? : Nat → Option Ix
  | 0 => some i0
  | 1 => some i1
  | 2 => some i2
  | _ => none

/-- The three indices, lowest first. -/
def all : List Ix := [i0, i1, i2]

/-- The next index in the cyclic order 0, 1, 2, 0 (R108). -/
def succ : Ix → Ix
  | i0 => i1
  | i1 => i2
  | i2 => i0

end Ix

/-- One value for each of the three bays, or for each of the three spurs. -/
structure Tri (α : Type) where
  x0 : α
  x1 : α
  x2 : α
deriving DecidableEq, Repr

namespace Tri

variable {α β : Type}

def get (t : Tri α) : Ix → α
  | .i0 => t.x0
  | .i1 => t.x1
  | .i2 => t.x2

def set (t : Tri α) (i : Ix) (a : α) : Tri α :=
  match i with
  | .i0 => { t with x0 := a }
  | .i1 => { t with x1 := a }
  | .i2 => { t with x2 := a }

def modify (t : Tri α) (i : Ix) (f : α → α) : Tri α := t.set i (f (t.get i))

def map (f : α → β) (t : Tri α) : Tri β := ⟨f t.x0, f t.x1, f t.x2⟩

def ofFn (f : Ix → α) : Tri α := ⟨f .i0, f .i1, f .i2⟩

def const (a : α) : Tri α := ⟨a, a, a⟩

def toList (t : Tri α) : List α := [t.x0, t.x1, t.x2]

end Tri

/-- The two line ports: U toward the line head, D toward the counter end (chapter Line Ports and Frames). -/
inductive Port
  | U | D
deriving DecidableEq, Repr

/-- The other port of the node. -/
def Port.other : Port → Port
  | .U => .D
  | .D => .U

end Sys2Proof
end

