-- ==== Sys2Proof/Config.lean ====
section
/-! DEFINITION. What this part fixes: its identity, the capacities of its collections and its fixed lengths.
The spec states a result for every command, so there is no free value here (INVENTORY.md, What the manual leaves open). -/

namespace Sys2Proof.Config

/-- R174: part code 0330h. -/
def partCode : Nat := 0x0330
/-- R174: revision 01h. -/
def revision : Nat := 1

/-- R29. -/
def expectedCap : Nat := 16
/-- R30. -/
def zoneCap : Nat := 24
/-- R31. -/
def spurCap : Nat := 6
/-- R32. -/
def landingCap : Nat := 8
/-- R33. -/
def groupCap : Nat := 8
/-- R167. -/
def fwdCap : Nat := 8
/-- R168. -/
def noticeCap : Nat := 8
/-- R168. -/
def responseCap : Nat := 4
/-- R137: requested CREDIT frames not yet sent. -/
def creditWaitCap : Nat := 16
/-- R179. -/
def reportCap : Nat := 16
/-- R180: entries in one REPORT frame. -/
def reportFrameEntries : Nat := 4
/-- R179. -/
def droppedMax : Nat := 255
/-- R163: greatest LEN. -/
def lenMax : Nat := 60
/-- R169. -/
def passedMax : Nat := 4
/-- R108. -/
def passedOverMax : Nat := 15
/-- R6. -/
def invalidMax : Nat := 255
/-- R6: the count that an invalid transition must exceed to raise ENCODER. -/
def invalidLimit : Nat := 4
/-- R9. -/
def compMax : Int := 1023
/-- R7. -/
def speedMax : Int := 32767
/-- R50. -/
def lengthMax : Int := 65535
/-- R130, R131: the dimmest lamp level. -/
def lampMax : Nat := 8
/-- R132: ticks in one period of the lamp outputs. -/
def lampPeriodMs : Nat := 5
/-- R145. -/
def viewMax : Nat := 16
/-- R181. -/
def counterMax : Nat := 4294967295
/-- R19, R137: the credit refresh period in ms. -/
def creditRefreshMs : Nat := 50
/-- R153: the fixed e-stop filter length in samples. -/
def estopFilter : Nat := 4
/-- R19: samples of the 0.25 ms clock to each tick. -/
def samplesPerTick : Nat := 4
/-- R61. -/
def routeEntries : Nat := 128
/-- R65, R63: most route entries in one request. -/
def routeRun : Nat := 28
/-- R36: most records in one LIST READ response. -/
def listReadMax : Nat := 3

end Sys2Proof.Config
end

