-- ==== Sys2Proof/Syntax.lean ====
section
/-! DEFINITION. The commands the part takes: one constructor of Instr for each row of spec/opcode_table.json. -/

namespace Sys2Proof

/-- A frame of the tote line bus whose CHECK holds (R163, R172). LEN is the payload's length, and CHECK is the
remainder of R164 over the characters, so neither is written out here. -/
structure Frame where
  dest : Byte
  src : Byte
  kind : Byte
  tag : Byte
  payload : List Byte
deriving DecidableEq, Repr

/-- A management request frame (R173): the port it arrives on, whether its DEST is broadcast (63) or this
node's address, the two spare bits of DEST, SRC, the request TAG and the payload. Its KIND is the command's. -/
structure Request where
  port : Port
  broadcast : Bool
  spare : BitVec 2
  src : Byte
  tag : Byte
  payload : List Byte
deriving DecidableEq, Repr

/-- A character on a line port's receive line (R162): its data bits, its mark bit, whether its stop bit was low,
and whether it started more than 44 µs after the end of the character before it (R163). -/
structure LineChar where
  data : Byte
  mark : Bool
  framingError : Bool
  gap : Bool
deriving DecidableEq, Repr

/-- A character on TAGIN (R14): its data bits, whether its stop bit was low, and whether it started more than 2 ms
after the end of the character before it. -/
structure TagChar where
  data : Byte
  framingError : Bool
  gap : Bool
deriving DecidableEq, Repr

/-- The commands: requests, frames, edges, expiries and ticks, in the order of spec/opcode_table.json. -/
inductive Instr
  | powerOn
  | resetPin
  | inquire (q : Request)
  | setParameters (q : Request)
  | readParameters (q : Request)
  | routeWrite (q : Request)
  | routeCommit (q : Request)
  | routeRead (q : Request)
  | spurNotice (q : Request)
  | spurRestore (q : Request)
  | bayClear (q : Request)
  | listRead (q : Request)
  | counterSetup (q : Request)
  | counterRead (q : Request)
  | counterClear (q : Request)
  | start (q : Request)
  | halt (q : Request)
  | resume (q : Request)
  | config (q : Request)
  | nodeReset (q : Request)
  /-- The last character of the NODE RESET response has been sent on the port (R170). -/
  | nodeResetTakesEffect (port : Port)
  | unknownKindRequest (kind : Byte) (q : Request)
  /-- A frame of KIND 01h addressed to next-hop completes on port U; its payload is that of R172. -/
  | notice (payload : List Byte)
  /-- A CREDIT frame with the SYNC flag at next-hop on port D; the third payload byte is ignored on receipt. -/
  | creditSync (value third : Byte)
  /-- A CREDIT frame with the LOCKED flag at next-hop on port D, with the neighbour's g and r. -/
  | creditLocked (g r : Byte)
  | frameForward (port : Port) (f : Frame)
  | frameDrop (port : Port) (f : Frame)
  /-- Characters arrive on the port that do not make up whole good frames. -/
  | frameAbandon (port : Port) (chars : List LineChar)
  | tagRead (chars : List TagChar)
  | badTagRead (chars : List TagChar)
  /-- The Position Unit samples the pair (ENCA, ENCB) (R1). -/
  | encoderTransition (a b : Bool)
  | entryEyeBlocked
  | entryEyeClear
  | gateEyeBlocked (spur : Ix)
  | gateEyeClear (spur : Ix)
  | confirmEyeBlocked (bay : Ix)
  | confirmEyeClear (bay : Ix)
  | frontEyeClear (bay : Ix)
  | frontEyeBlocked (bay : Ix)
  | eStopAssertion
  | eStopRelease
  | speedSample
  | paddlePulseExpiry (bay : Ix)
  | gatePulseExpiry (spur : Ix)
  | releaseTimerExpiry (spur : Ix)
  | chimeExpiry (bay : Ix)
  | chuteJamExpiry (bay : Ix)
  | lampStepExpiry (bay : Ix)
  | creditRefresh
  | millisecondTick
  | frameSent (port : Port)
deriving DecidableEq, Repr

end Sys2Proof
end

