-- ==== Sys2Proof/WellFormed.lean ====
section
/-! DEFINITION. Which commands the lines and pins can bring. The machine takes every command; a command that is not
well formed is one no line or pin sends under that name. -/

namespace Sys2Proof

/-- A payload a frame can carry: LEN is 0 to 60 (R163, R172). -/
def payloadFits (p : List Byte) : Bool := decide (p.length ≤ Config.lenMax)

/-- R166: a broadcast frame reaches the Management Unit on port U alone. -/
def Request.wf (q : Request) : Bool :=
  payloadFits q.payload && (!q.broadcast || decide (q.port = .U))

def Frame.wf (f : Frame) : Bool := payloadFits f.payload

/-- R166: LEN 11 with the group bit of the attribute byte clear, or LEN 14 with it set. -/
def noticeLenOk (p : List Byte) : Bool :=
  match p[9]? with
  | some a => (decide (p.length = 11) && !a.getLsbD 2) || (decide (p.length = 14) && a.getLsbD 2)
  | none => false

/-- R166, R173: kinds handed to the Management Unit that are not request kinds. -/
def unknownKind (k : Byte) : Bool :=
  decide (k.toNat < 0x80) && !decide (k.toNat ∈ [1, 2, 3]) && !(decide (0x10 ≤ k.toNat) && decide (k.toNat ≤ 0x21))

/-- R14: six characters in time and without framing errors, 02h, four tag bytes that are not all 0 and their
exclusive-or. -/
def validTagChars (cs : List TagChar) : Bool :=
  cs.all (fun c => !c.framingError) && (cs.drop 1).all (fun c => !c.gap) &&
  match cs.map TagChar.data with
  | [h, a, b, c, d, k] =>
    decide (h = 0x02) && decide (k = a ^^^ b ^^^ c ^^^ d) && !(decide (a = 0) && decide (b = 0) && decide (c = 0) && decide (d = 0))
  | _ => false

/-- The commands the outside world sends under their names. -/
def Instr.wf : Instr → Bool
  | .powerOn | .resetPin | .nodeResetTakesEffect _ => true
  | .inquire q | .setParameters q | .readParameters q | .routeWrite q | .routeCommit q | .routeRead q
  | .spurNotice q | .spurRestore q | .bayClear q | .listRead q | .counterSetup q | .counterRead q
  | .counterClear q | .start q | .halt q | .resume q | .config q | .nodeReset q => q.wf
  | .unknownKindRequest k q => unknownKind k && q.wf
  | .notice p => noticeLenOk p
  | .creditSync _ _ | .creditLocked _ _ => true
  | .frameForward _ f => f.wf && !decide ((f.dest &&& 0x3F) = 62)
  | .frameDrop _ f => f.wf
  | .frameAbandon _ cs => !cs.isEmpty
  | .tagRead cs => validTagChars cs
  | .badTagRead cs => !cs.isEmpty && !validTagChars cs
  | .encoderTransition _ _ => true
  | .entryEyeBlocked | .entryEyeClear | .gateEyeBlocked _ | .gateEyeClear _ | .confirmEyeBlocked _
  | .confirmEyeClear _ | .frontEyeClear _ | .frontEyeBlocked _ => true
  | .eStopAssertion | .eStopRelease | .speedSample => true
  | .paddlePulseExpiry _ | .gatePulseExpiry _ | .releaseTimerExpiry _ | .chimeExpiry _ | .chuteJamExpiry _
  | .lampStepExpiry _ => true
  | .creditRefresh | .millisecondTick | .frameSent _ => true

end Sys2Proof
end

