-- ==== Sys2Proof/Decode.lean ====
section
/-! DEFINITION. Reading a command from a word of spec/opcode_table.json. The table gives no row any bits (every
row's "fields" is empty and none has "fixed"), so no word spells a command (log 20). A request reaches the part as
a frame, and frames are read in Machine/Line.lean and Machine/Requests.lean. -/

namespace Sys2Proof

/-- No row of the table has bits: no word spells a command. -/
def decodeTableWord (_nbits _w : Nat) : Option Instr := none

end Sys2Proof
end

