-- ==== Sys2Proof/Machine/State.lean ====
section
/-! DEFINITION. Everything the spec gives the part as plain data, and the state right after reset. -/

namespace Sys2Proof.Machine

/-! ### Records of totes (chapter Tote Records and Zone Collections) -/

inductive Cls
  | rush | staged
deriving DecidableEq, Repr

inductive Size
  | small | large
deriving DecidableEq, Repr

/-- The group part of R25. -/
structure GroupPart where
  id : Nat
  count : Nat
  index : Nat
deriving DecidableEq, Repr

/-- The identity fields of R24. Tag 0 is unknown, order 0 a stray's, dest 0 none. -/
structure Ident where
  tag : BitVec 32
  order : BitVec 24
  dest : BitVec 7
  cls : Cls
  size : Size
  group : Option GroupPart
  origin : Nat
deriving DecidableEq, Repr

/-- A notice record of the expected list with its arrival position (R29). -/
structure Notice where
  ident : Ident
  pa : Pos
deriving DecidableEq, Repr

/-- The seven flags of R26. -/
structure ToteFlags where
  stray : Bool
  noRead : Bool
  lengthMismatch : Bool
  merged : Bool
  overflow : Bool
  missed : Bool
  noRoute : Bool
deriving DecidableEq, Repr

/-- A route decision (R27, R66). -/
inductive Decision
  | pass
  | land (bay : Ix)
deriving DecidableEq, Repr

/-- The tracking fields of a zone record by its state: each state carries the fields that the table of R27
gives it and no other. RIDING is PASS; ARMED and CONFIRMING are LAND at `bay`. -/
inductive Track
  /-- ENTERING: the length is not yet known. -/
  | entering (decision : Decision)
  /-- RIDING: the exit claim is present once made at the hold point. -/
  | riding (length : Nat) (claim : Option Byte)
  /-- ARMED: fire base B, late limit and fire target F (R79). -/
  | armed (length : Nat) (bay : Ix) (base late target : Pos)
  /-- CONFIRMING: fire base B, fire position Pf and confirm window end (R82). -/
  | confirming (length : Nat) (bay : Ix) (base fired windowEnd : Pos)
deriving DecidableEq, Repr

/-- A tote record of the zone list (R24 to R28). -/
structure Tote where
  ident : Ident
  flags : ToteFlags
  lead : Pos
  track : Track
deriving DecidableEq, Repr

/-- A one-shot or periodic timer: idle (or not started), or the ticks left (R18, R19). -/
abbrev Timer := Option Nat

/-! ### Spurs (chapter Merging from Pick Spurs) -/

inductive SubState
  | announced | atGate
deriving DecidableEq, Repr

/-- A spur record (R31); `stray` marks a spur stray (R104). -/
structure SpurRec where
  ident : Ident
  sub : SubState
  stray : Bool
deriving DecidableEq, Repr

/-- What a grant fixes for the front record: its virtual lead, its decision and the decision's flags (R109). -/
structure Grant where
  lead : Pos
  decision : Decision
  overflow : Bool
  noRoute : Bool
deriving DecidableEq, Repr

/-- The spur states of R101; a grant is held exactly while the spur is GRANTED. -/
inductive SpurState
  | empty
  | waiting
  | granted (g : Grant)
  | blocked
deriving DecidableEq, Repr

structure Spur where
  st : SpurState
  list : List SpurRec
  passedOver : Nat
  gateTimer : Timer
  releaseTimer : Timer
deriving DecidableEq, Repr

/-! ### Bays (chapters Route Decisions, Divert, Order Assembly) -/

/-- A landing record (R32). -/
structure LandingRec where
  tag : BitVec 32
  order : BitVec 24
  cls : Cls
  group : Option GroupPart
  unexpected : Bool
deriving DecidableEq, Repr

/-- What the Bay Unit, Divert Unit, Assembly Unit and Annunciator hold for one bay. -/
structure Bay where
  landing : List LandingRec
  reserved : Nat
  blocked : Bool
  chuteJam : Timer
  paddle : Timer
  ready : Nat
  rushReady : Nat
  lamp : Nat
  lampTimer : Timer
  chime : Timer
deriving DecidableEq, Repr

/-- A group entry (R33). -/
structure GroupEntry where
  id : Nat
  count : Nat
  landed : Nat
  taken : Nat
  untaken : Tri Nat
  cls : Cls
  ready : Bool
deriving DecidableEq, Repr

/-- The lamp outputs (R132): how many of the five ticks of the 5 ms period in progress have passed, and the level each
LAMP_k shows in it. -/
structure LampDriver where
  phase : Nat
  shown : Tri Nat
deriving DecidableEq, Repr

/-! ### Routes (R61) -/

inductive RouteEntry
  | pass
  | land (primary : Ix) (alternate : Option Ix)
  | best (mask : Tri Bool)
deriving DecidableEq, Repr

structure RouteTables where
  active : List RouteEntry
  standby : List RouteEntry
  generation : Byte
deriving DecidableEq, Repr

/-! ### Position, eyes, tag port, timebase -/

/-- The Position Unit (R1 to R9). -/
structure PositionUnit where
  P : Pos
  Hw : Pos
  sub : Int
  encPrev : Option (Bool × Bool)
  invalid : Nat
  S : Int
  comp : Tri Nat
  stall : Nat
  windowStart : Pos
  windowLen : Nat
  windowTimer : Timer
  windowDriven : Bool
deriving DecidableEq, Repr

/-- The ten eyes by their owners (R11). -/
inductive EyeId
  | entry
  | gate (spur : Ix)
  | confirm (bay : Ix)
  | front (bay : Ix)
deriving DecidableEq, Repr

/-- An edge event of an eye (R11): its direction (`blocked` is a blocked edge), its stamp P and high-water flag, both of
the moment of acceptance, and for a clear edge the blocked-since position of R12. Which eye it is of is said by where
it waits and by the command that hands it on. -/
structure Edge where
  blocked : Bool
  stamp : Pos
  highWater : Bool
  blockedSince : Option Pos
deriving DecidableEq, Repr

/-- One eye: filtered state, agreement count (R10), blocked-since position and time (R12), and the edge events accepted
that its owner has not yet taken, oldest first (R11). -/
structure Eye where
  blocked : Bool
  count : Nat
  since : Option (Pos × BitVec 32)
  waiting : List Edge
deriving DecidableEq, Repr

structure EyeUnit where
  entry : Eye
  gate : Tri Eye
  confirm : Tri Eye
  front : Tri Eye
deriving DecidableEq, Repr

/-- The Tag Port's receiver (R14): in IN_READ, the characters collected after 02h. -/
inductive TagRx
  | awaitStart
  | inRead (got : List Byte)
deriving DecidableEq, Repr

structure PendingTag where
  tag : BitVec 32
  since : Pos
deriving DecidableEq, Repr

structure TagPort where
  rx : TagRx
  pending : Option PendingTag
deriving DecidableEq, Repr

/-- The tick count of R19 and which of the four samples of a tick comes next. -/
structure Timebase where
  ticks : BitVec 32
  quarter : Nat
deriving DecidableEq, Repr

/-- The levels at the input pins that no command carries: the straps, the eye beams (true is blocked) and the
emergency stop (true is low, active). The outside world sets them; no event of the part does (log 3). -/
structure Inputs where
  straps : BitVec 6
  entry : Bool
  gate : Tri Bool
  confirm : Tri Bool
  front : Tri Bool
  estop : Bool
deriving DecidableEq, Repr

/-! ### Parameters (R176) -/

structure BayParams where
  cap : Nat
  rush : Nat
  offset : Nat
  latency : Nat
  pulse : Nat
  confirm : Nat
deriving DecidableEq, Repr

structure SpurParams where
  enable : Nat
  merge : Nat
  adj : Nat
  gateMs : Nat
  releaseMs : Nat
deriving DecidableEq, Repr

structure Params where
  encDiv : Nat
  speedWin : Nat
  entryFilter : Nat
  gateFilter : Nat
  bayFilter : Nat
  lenSmall : Nat
  lenLarge : Nat
  lenTol : Nat
  gap : Nat
  jamLen : Nat
  zoneExit : Nat
  holdPoint : Nat
  dueDist : Nat
  stallMs : Nat
  tagEnable : Nat
  tagHold : Nat
  mergeMinSpeed : Nat
  zoneBudget : Nat
  upLimit : Nat
  terminal : Nat
  patience : Nat
  chuteJamMs : Nat
  lampStepS : Nat
  chimeMs : Nat
  reportLandings : Nat
  bay : Tri BayParams
  spur : Tri SpurParams
deriving DecidableEq, Repr

/-! ### Credits, node control -/

inductive Mode
  | sync | locked
deriving DecidableEq, Repr

/-- The Credit Unit (R135, R137, R142, R148). -/
structure CreditUnit where
  mode : Mode
  o : Nat
  r : Byte
  g : Byte
  G : Byte
  s : Byte
  unsynced : Bool
  exitHold : Bool
  waiting : Nat
  refresh : Timer
deriving DecidableEq, Repr

inductive NodeState
  | config | run | halt
deriving DecidableEq, Repr

inductive HaltCause
  | none | request | eStop | jam | stall | encoder
deriving DecidableEq, Repr

/-- Node Control (R152, R153) and the node's address (R165). -/
structure NodeControl where
  state : NodeState
  cause : HaltCause
  estopActive : Bool
  estopCount : Nat
  address : Nat
deriving DecidableEq, Repr

/-! ### Line ports -/

/-- A port's receiver (R163): in IN_FRAME, the data bytes of the frame so far. -/
inductive RxState
  | idle
  | inFrame (got : List Byte)
deriving DecidableEq, Repr

/-- A frame of the node's own, or the frame being sent; `thenReset` marks the DONE response of a NODE RESET,
whose end brings the reset (R170). -/
structure OutFrame where
  frame : Frame
  thenReset : Bool
deriving DecidableEq, Repr

structure LinePort where
  rx : RxState
  fwd : List Frame
  responses : List OutFrame
  passed : Nat
  tx : Option OutFrame
deriving DecidableEq, Repr

structure Lines where
  u : LinePort
  d : LinePort
  notices : List Frame
  seq : Byte
deriving DecidableEq, Repr

/-! ### Reports and counters -/

/-- The report kinds of R172, in the order of their codes 01h to 1Ch. -/
inductive ReportKind
  | missing | stray | untracked | lengthMismatch | noticeRefused | noticeStale | noticeGap
  | noticeBeyondCredit | creditResync | overflowPass | divertMiss | landed | unexpectedLanding | taken
  | bayBlocked | bayUnblocked | orderReady | orderCollected | groupUntracked | groupExcess | spurStray
  | spurLost | spurStuck | spurLate | exited | halted | resumed | discarded
deriving DecidableEq, Repr

/-- A report entry (R179). -/
structure Report where
  kind : ReportKind
  detail : Byte
  tag : BitVec 32
  order : BitVec 24
deriving DecidableEq, Repr

/-- The event codes of R181, in order from 00h to 11h. -/
inductive EventCode
  | none | toteEntered | divertDone | divertMiss | mergeDone | missing | stray | overflowPass
  | exitHoldMs | mergeWaitMs | zoneOccupancy | landingOccupancy | frameDrop | checkError | encoderError
  | tagOverrun | tagUnused | takenUnknown
deriving DecidableEq, Repr

/-- An event counter (R181). -/
structure Counter where
  event : EventCode
  classMask : Byte
  qualMask : Byte
  value : Nat
deriving DecidableEq, Repr

/-! ### The state -/

/-- The whole part. `jamAt` is the Tracker's jam position (R54, R60). -/
structure State where
  inputs : Inputs
  time : Timebase
  pos : PositionUnit
  eyes : EyeUnit
  tagPort : TagPort
  params : Params
  expected : List Notice
  zone : List Tote
  jamAt : Option Pos
  spurs : Tri Spur
  lastWinner : Ix
  bays : Tri Bay
  lamps : LampDriver
  groups : List GroupEntry
  routes : RouteTables
  credit : CreditUnit
  node : NodeControl
  lines : Lines
  reports : List Report
  dropped : Nat
  counters : List Counter
  pending : List Instr
deriving DecidableEq, Repr

/-- The spec names nothing that stops the part with a fault, so no meaning raises one: there is no constructor.
Safe: nothing is stopped that the hardware would go on with. -/
inductive Fault
deriving DecidableEq, Repr

/-- Why a command has no meaning. -/
inductive Refusal
  /-- Raised by exec for a command that has no meaning yet; no command of this model is left so. Safe. -/
  | notModelled (mnemonic : String)
deriving DecidableEq, Repr

/-! ### Reset -/

/-- R165: a strap value from 1 to 61 is the address; 0, 62 and 63 give 61. -/
def addressOf (straps : BitVec 6) : Nat :=
  if 1 ≤ straps.toNat ∧ straps.toNat ≤ 61 then straps.toNat else 61

/-- R176: the defaults. -/
def Params.default : Params where
  encDiv := 4
  speedWin := 16
  entryFilter := 4
  gateFilter := 4
  bayFilter := 4
  lenSmall := 600
  lenLarge := 900
  lenTol := 80
  gap := 150
  jamLen := 1500
  zoneExit := 6000
  holdPoint := 5400
  dueDist := 1200
  stallMs := 1000
  tagEnable := 0
  tagHold := 400
  mergeMinSpeed := 4
  zoneBudget := 8
  upLimit := 4
  terminal := 0
  patience := 3
  chuteJamMs := 3000
  lampStepS := 20
  chimeMs := 400
  reportLandings := 1
  bay := .const ⟨0, 1, 3000, 40, 120, 500⟩
  spur := .const ⟨0, 2600, 400, 300, 1500⟩

/-- R23: CLEAR, count 0, blocked-since values absent, no edge event. -/
def Eye.reset : Eye := ⟨false, 0, none, []⟩

/-- R99, R78, R134. -/
def Bay.reset : Bay := ⟨[], 0, false, none, none, 0, 0, 0, none, none⟩

/-- R120. -/
def Spur.reset : Spur := ⟨.empty, [], 0, none, none⟩

/-- R171. -/
def LinePort.reset : LinePort := ⟨.idle, [], [], 0, none⟩

/-- R182. -/
def Counter.reset : Counter := ⟨.none, 0, 0, 0⟩

/-- The machine right after reset, with the pin levels of log 3: R23, R37, R60, R78, R99, R120, R134, R151,
R161, R171, R176, R179, R182. -/
def State.reset : State where
  inputs := ⟨0, false, .const false, .const false, .const false, false⟩
  time := ⟨0, 0⟩
  pos := ⟨0, 0, 0, none, 0, 0, .const 0, 0, 0, 16, none, false⟩
  eyes := ⟨Eye.reset, .const Eye.reset, .const Eye.reset, .const Eye.reset⟩
  tagPort := ⟨.awaitStart, none⟩
  params := Params.default
  expected := []
  zone := []
  jamAt := none
  spurs := .const Spur.reset
  lastWinner := .i2
  bays := .const Bay.reset
  lamps := ⟨0, .const 0⟩
  groups := []
  routes := ⟨List.replicate 128 .pass, List.replicate 128 .pass, 0⟩
  credit := ⟨.sync, 0, 0, 0, 0, 0, true, false, 0, none⟩
  node := ⟨.config, .none, true, 0, addressOf 0⟩
  lines := ⟨LinePort.reset, LinePort.reset, [], 0⟩
  reports := []
  dropped := 0
  counters := [Counter.reset, Counter.reset, Counter.reset, Counter.reset]
  pending := []

end Sys2Proof.Machine
end

