-- ==== Sys2Proof/Machine/Ops.lean ====
section
/-! DEFINITION. The named operations every block uses: position tests, reports, event counters, timers, eyes,
and the reset of the whole part. -/

namespace Sys2Proof.Machine

/-! ### Positions (R3) -/

/-- `b` has reached `a`: (b − a) modulo 2^24 is below 2^23. -/
def reached (b a : Pos) : Bool := decide ((b - a).toNat < 8388608)

/-- The signed modular difference d(a, b) from `a` to `b`. -/
def dist (a b : Pos) : Int := (b - a).toInt

/-- A position a number of counts downstream, modulo 2^24. -/
def posAdd (p : Pos) (n : Nat) : Pos := p + BitVec.ofNat 24 n

/-- A position a number of counts upstream, modulo 2^24. -/
def posSub (p : Pos) (n : Nat) : Pos := p - BitVec.ofNat 24 n

/-- A value clamped to a range (00_scope.md, Clamps and saturation). -/
def clampInt (lo hi x : Int) : Int := max lo (min hi x)

/-! ### Bytes (R172: multi-byte fields high byte first) -/

def byte (n : Nat) : Byte := BitVec.ofNat 8 n

def be16 (n : Nat) : List Byte := [byte (n / 256), byte n]

def be24 (n : Nat) : List Byte := [byte (n / 65536), byte (n / 256), byte n]

def be32 (n : Nat) : List Byte := [byte (n / 16777216), byte (n / 65536), byte (n / 256), byte n]

/-- The number a run of bytes spells, high byte first. -/
def beNat (bs : List Byte) : Nat := bs.foldl (fun n b => n * 256 + b.toNat) 0

/-! ### Codes of R152, R172, R174 -/

def NodeState.code : NodeState → Nat
  | .config => 0
  | .run => 1
  | .halt => 2

def HaltCause.code : HaltCause → Nat
  | .none => 0
  | .request => 1
  | .eStop => 2
  | .jam => 3
  | .stall => 4
  | .encoder => 5

/-- The report-kind codes of R172. -/
def ReportKind.code : ReportKind → Nat
  | .missing => 0x01
  | .stray => 0x02
  | .untracked => 0x03
  | .lengthMismatch => 0x04
  | .noticeRefused => 0x05
  | .noticeStale => 0x06
  | .noticeGap => 0x07
  | .noticeBeyondCredit => 0x08
  | .creditResync => 0x09
  | .overflowPass => 0x0A
  | .divertMiss => 0x0B
  | .landed => 0x0C
  | .unexpectedLanding => 0x0D
  | .taken => 0x0E
  | .bayBlocked => 0x0F
  | .bayUnblocked => 0x10
  | .orderReady => 0x11
  | .orderCollected => 0x12
  | .groupUntracked => 0x13
  | .groupExcess => 0x14
  | .spurStray => 0x15
  | .spurLost => 0x16
  | .spurStuck => 0x17
  | .spurLate => 0x18
  | .exited => 0x19
  | .halted => 0x1A
  | .resumed => 0x1B
  | .discarded => 0x1C

/-- The event codes of R181. -/
def EventCode.code : EventCode → Nat
  | .none => 0x00
  | .toteEntered => 0x01
  | .divertDone => 0x02
  | .divertMiss => 0x03
  | .mergeDone => 0x04
  | .missing => 0x05
  | .stray => 0x06
  | .overflowPass => 0x07
  | .exitHoldMs => 0x08
  | .mergeWaitMs => 0x09
  | .zoneOccupancy => 0x0A
  | .landingOccupancy => 0x0B
  | .frameDrop => 0x0C
  | .checkError => 0x0D
  | .encoderError => 0x0E
  | .tagOverrun => 0x0F
  | .tagUnused => 0x10
  | .takenUnknown => 0x11

/-- The event of a code, none above 11h (R182). -/
def EventCode.ofCode (n : Nat) : Option EventCode :=
  [.none, .toteEntered, .divertDone, .divertMiss, .mergeDone, .missing, .stray, .overflowPass,
   .exitHoldMs, .mergeWaitMs, .zoneOccupancy, .landingOccupancy, .frameDrop, .checkError, .encoderError,
   .tagOverrun, .tagUnused, .takenUnknown][n]?

/-! ### Reports (R179) -/

/-- Appends a report entry, or drops it and counts the drop when the queue holds 16 (R179). -/
def State.report (k : ReportKind) (detail : Nat) (tag : BitVec 32) (order : BitVec 24) (s : State) : State :=
  if s.reports.length < Config.reportCap then
    { s with reports := s.reports ++ [⟨k, byte detail, tag, order⟩] }
  else
    { s with dropped := min Config.droppedMax (s.dropped + 1) }

/-! ### Event counters (R181) -/

/-- The class bit of a class mask: bit 0 RUSH, bit 1 STAGED. -/
def Cls.bit : Cls → Nat
  | .rush => 0
  | .staged => 1

/-- The class's bit is set in the counter's class mask. -/
def Counter.takesClass (c : Counter) (k : Cls) : Bool := c.classMask.getLsbD k.bit

/-- The qualifier's bit is set in the counter's qualifier mask. -/
def Counter.takesQual (c : Counter) (q : Nat) : Bool := c.qualMask.getLsbD q

/-- A value rises by `n` and stays at its ceiling (R181). -/
def Counter.add (n : Nat) (c : Counter) : Counter :=
  { c with value := min Config.counterMax (c.value + n) }

/-- One counter at an offered event with its class and qualifier, where it has them (R181). -/
def Counter.offered (e : EventCode) (k : Option Cls) (q : Option Nat) (c : Counter) : Counter :=
  if c.event = e ∧ e ≠ .none ∧ (k.all c.takesClass) = true ∧ (q.all c.takesQual) = true then c.add 1 else c

/-- An event is offered to the four counters (R181). -/
def State.offer (e : EventCode) (k : Option Cls) (q : Option Nat) (s : State) : State :=
  { s with counters := s.counters.map (Counter.offered e k q) }

/-- The qualifier bit of a port: bit 0 U, bit 1 D (R181). -/
def portQual : Port → Nat
  | .U => 0
  | .D => 1

/-- A FRAME_DROP event with a port as qualifier. -/
def State.offerDrop (p : Port) (s : State) : State := s.offer .frameDrop none (some (portQual p))

/-- A CHECK_ERROR event: bit 0 U, bit 1 D, bit 2 tag input (R181). -/
def State.offerCheckError (q : Nat) (s : State) : State := s.offer .checkError none (some q)

/-! ### Timers (R18, R19) -/

/-- One tick of a running timer. -/
def Timer.tick (t : Timer) : Timer := t.map (· - 1)

/-- The next tick brings the timer's expiry. -/
def Timer.dueNext (t : Timer) : Bool :=
  match t with
  | some n => decide (n ≤ 1)
  | none => false

/-- The Nth tick since the timer's start has been taken, and its expiry has not (R18). -/
def Timer.due (t : Timer) : Bool := decide (t = some 0)

/-! ### Eyes (R10 to R12) -/

def EyeUnit.get (e : EyeUnit) : EyeId → Eye
  | .entry => e.entry
  | .gate s => e.gate.get s
  | .confirm k => e.confirm.get k
  | .front k => e.front.get k

def EyeUnit.put (e : EyeUnit) (i : EyeId) (x : Eye) : EyeUnit :=
  match i with
  | .entry => { e with entry := x }
  | .gate s => { e with gate := e.gate.set s x }
  | .confirm k => { e with confirm := e.confirm.set k x }
  | .front k => { e with front := e.front.set k x }

/-- The high-water flag of an edge accepted now (R11). -/
def State.atHighWater (s : State) : Bool := decide (s.pos.P = s.pos.Hw)

/-- The edge event of an eye whose change to `b` is accepted now: the stamp is P, and a clear edge carries the
blocked-since position the eye still holds (R11, R12). -/
def State.edgeNow (i : EyeId) (b : Bool) (s : State) : Edge where
  blocked := b
  stamp := s.pos.P
  highWater := s.atHighWater
  blockedSince := if b then none else (s.eyes.get i).since.map Prod.fst

/-- The jam position set from the entry eye's blocked-since position at a blocked edge, and removed at a clear one
(R12, R54). It then keeps its value (R20, R60, log 16). -/
def State.setJam (s : State) : State :=
  { s with jamAt := s.eyes.entry.since.map fun x => posAdd x.1 s.params.jamLen }

/-- The Eye Unit accepts a change of an eye to `b` (R10 to R12): the edge event is made and waits for its owner, the
filtered state takes the value, the agreement count returns to 0, and the blocked-since values are set from P and the
tick count at a blocked edge and become absent at a clear edge. The jam position follows the entry eye. -/
def State.acceptEdge (i : EyeId) (b : Bool) (s : State) : State :=
  let x : Eye :=
    { blocked := b
      count := 0
      since := if b then some (s.pos.P, s.time.ticks) else none
      waiting := (s.eyes.get i).waiting ++ [s.edgeNow i b] }
  let s1 := { s with eyes := s.eyes.put i x }
  match i with
  | .entry => s1.setJam
  | _ => s1

/-- The owner takes the oldest edge event of an eye, where it has the direction `b` (R11). -/
def State.takeEdge (i : EyeId) (b : Bool) (s : State) : Option (Edge × State) :=
  match (s.eyes.get i).waiting with
  | e :: rest =>
    if e.blocked = b then some (e, { s with eyes := s.eyes.put i { s.eyes.get i with waiting := rest } }) else none
  | [] => none

/-! ### Lengths and counts the blocks share -/

/-- The nominal length of a size (R20). -/
def Params.nominal (p : Params) : Size → Nat
  | .small => p.lenSmall
  | .large => p.lenLarge

def Tote.decision (t : Tote) : Decision :=
  match t.track with
  | .entering d => d
  | .riding _ _ => .pass
  | .armed _ k _ _ _ => .land k
  | .confirming _ k _ _ _ => .land k

def Tote.claim (t : Tote) : Option Byte :=
  match t.track with
  | .riding _ c => c
  | _ => none

def Tote.isEntering (t : Tote) : Bool :=
  match t.track with
  | .entering _ => true
  | _ => false

def SpurState.isGranted : SpurState → Bool
  | .granted _ => true
  | _ => false

/-- Some spur is GRANTED. -/
def State.anyGranted (s : State) : Bool := Ix.all.any fun i => (s.spurs.get i).st.isGranted

/-- The budget sum of R35, computed from its four terms as they stand. -/
def State.budget (s : State) : Nat :=
  s.expected.length + s.zone.length + s.credit.o + (if s.anyGranted then 1 else 0)

/-- Belt-run: on while the node is in RUN and exit hold is clear (R148). -/
def State.beltRun (s : State) : Bool := decide (s.node.state = .run) && !s.credit.exitHold

/-- The node tracks totes: RUN or HALT (R43, R102). -/
def State.tracking (s : State) : Bool := decide (s.node.state ≠ .config)

/-- A nonzero tag present in the expected list or in any spur list (R34). -/
def State.tagAnnounced (s : State) (tag : BitVec 32) : Bool :=
  decide (tag ≠ 0) &&
    (s.expected.any (fun n => decide (n.ident.tag = tag)) ||
      Ix.all.any fun i => (s.spurs.get i).list.any fun r => decide (r.ident.tag = tag))

/-! ### Changes of one bay or spur -/

def State.modBay (k : Ix) (f : Bay → Bay) (s : State) : State := { s with bays := s.bays.modify k f }

def State.modSpur (i : Ix) (f : Spur → Spur) (s : State) : State := { s with spurs := s.spurs.modify i f }

/-- A reservation at bay k is released (R74). -/
def State.release (k : Ix) (s : State) : State := s.modBay k fun b => { b with reserved := b.reserved - 1 }

/-- The reservation that goes with a decision is released (R74). -/
def State.releaseDecision (d : Decision) (s : State) : State :=
  match d with
  | .pass => s
  | .land k => s.release k

/-! ### Reset (R161) -/

/-- Every block at its after-reset values, the address read anew from the straps (R165). The levels at the pins
and the commands waiting outside are not the part's to reset. -/
def State.resetPart (s : State) : State :=
  { State.reset with
    inputs := s.inputs
    node := { State.reset.node with address := addressOf s.inputs.straps }
    pending := s.pending }

end Sys2Proof.Machine
end

