-- ==== Sys2Proof/Machine/Assembly.lean ====
section
/-! DEFINITION. Order assembly and the bay annunciators (chapter Order Assembly and Bay Annunciators). -/

namespace Sys2Proof.Machine

/-! ### Annunciator (R130, R131) -/

/-- A rise of the ready count: level 1, the chime and the step timer started anew (R130). -/
def Bay.rise (p : Params) (b : Bay) : Bay :=
  { b with lamp := 1, chime := some p.chimeMs, lampTimer := some (p.lampStepS * 1000) }

/-- A fall of the ready count to 0: level 0, the step timer stopped (R130). -/
def Bay.fallToDark (b : Bay) : Bay :=
  if b.ready = 0 then { b with lamp := 0, lampTimer := none } else b

/-- An expiry of the lamp step timer (R131). -/
def Bay.lampStep (p : Params) (b : Bay) : Bay :=
  { b with
    lamp := if 0 < b.rushReady then 1 else if b.lamp < Config.lampMax then b.lamp + 1 else b.lamp
    lampTimer := some (p.lampStepS * 1000) }

def Cls.isRush : Cls → Bool
  | .rush => true
  | .staged => false

/-- One more ready order at a bay, handed to the Annunciator (R122, R125). -/
def Bay.orderCalled (p : Params) (c : Cls) (b : Bay) : Bay :=
  Bay.rise p { b with ready := b.ready + 1, rushReady := b.rushReady + (if c.isRush then 1 else 0) }

/-- One ready order fewer at a bay; a fall to 0 is handed to the Annunciator (R126, R127). -/
def Bay.orderGone (c : Cls) (b : Bay) : Bay :=
  Bay.fallToDark { b with ready := b.ready - 1, rushReady := b.rushReady - (if c.isRush then 1 else 0) }

/-! ### Landings (R122 to R125) -/

/-- A bay in the coding of ORDER_READY: 1, 2 or 4 (R122). -/
def Ix.mask (k : Ix) : Nat := 2 ^ k.toNat

/-- A landing handled as a single-tote order (R122). -/
def State.singleLanding (k : Ix) (r : LandingRec) (s : State) : State :=
  (s.modBay k (Bay.orderCalled s.params r.cls)).report .orderReady (Ix.mask k) r.tag r.order

/-- The last record of landing list k loses its group part (R123, R124). -/
def Bay.degradeLast (b : Bay) : Bay :=
  match b.landing.getLast? with
  | some r => { b with landing := b.landing.dropLast ++ [{ r with group := none }] }
  | none => b

/-- A degraded landing: GROUP_UNTRACKED or GROUP_EXCESS, then R122. -/
def State.degradedLanding (why : ReportKind) (k : Ix) (r : LandingRec) (s : State) : State :=
  ((s.modBay k Bay.degradeLast).report why k.toNat r.tag r.order).singleLanding k r

/-- A landing counted into an entry, steps 1 and 2 of R125 and the ready flag of step 3. -/
def GroupEntry.land (k : Ix) (c : Cls) (e : GroupEntry) : GroupEntry :=
  { e with
    landed := e.landed + 1
    untaken := e.untaken.modify k (· + 1)
    cls := if c.isRush then .rush else e.cls
    ready := e.ready || decide (e.landed + 1 = e.count) }

/-- The entry of an id replaced in the table. -/
def replaceGroup (e : GroupEntry) (gs : List GroupEntry) : List GroupEntry :=
  gs.map fun x => if x.id = e.id then e else x

/-- The bays an entry holds untaken members in, coded as in R122. -/
def GroupEntry.calledMask (e : GroupEntry) : Nat :=
  (Ix.all.map fun k => if 0 < e.untaken.get k then Ix.mask k else 0).sum

/-- The order of an entry is declared ready (step 3 of R125). -/
def State.declareReady (e : GroupEntry) (r : LandingRec) (s : State) : State :=
  ({ s with bays := .ofFn fun k =>
      if 0 < e.untaken.get k then (s.bays.get k).orderCalled s.params e.cls else s.bays.get k }).report
    .orderReady e.calledMask r.tag r.order

/-- A landing counted into the entry `e` of the table (R125). -/
def State.countLanding (k : Ix) (r : LandingRec) (e : GroupEntry) (s : State) : State :=
  let e' := e.land k r.cls
  let s' := { s with groups := replaceGroup e' s.groups }
  if e'.landed = e'.count then s'.declareReady e' r else s'

/-- A new entry for the first member of a group to land (R123). -/
def GroupEntry.new (g : GroupPart) : GroupEntry := ⟨g.id, g.count, 0, 0, .const 0, .staged, false⟩

/-- A landing is handed to the Assembly Unit with its bay, its record standing last in landing list k
(R122 to R125). -/
def State.assemblyLanding (k : Ix) (r : LandingRec) (s : State) : State :=
  match r.group with
  | none => s.singleLanding k r
  | some g =>
    match s.groups.find? fun x => decide (x.id = g.id) with
    | some e =>
      if e.landed = e.count then s.degradedLanding .groupExcess k r else s.countLanding k r e
    | none =>
      if s.groups.length < Config.groupCap then
        ({ s with groups := s.groups ++ [GroupEntry.new g] }).countLanding k r (GroupEntry.new g)
      else s.degradedLanding .groupUntracked k r

/-! ### Taken totes (R126, R127) -/

/-- A single-tote order is collected (R126). -/
def State.singleTaken (k : Ix) (r : LandingRec) (s : State) : State :=
  (s.modBay k (Bay.orderGone r.cls)).report .orderCollected k.toNat r.tag r.order

/-- Step 1 of R127. -/
def GroupEntry.take (k : Ix) (e : GroupEntry) : GroupEntry :=
  { e with taken := e.taken + 1, untaken := e.untaken.modify k (· - 1) }

/-- A taken member counted against its group's entry (R127). -/
def State.memberTaken (k : Ix) (r : LandingRec) (e : GroupEntry) (s : State) : State :=
  let e' := e.take k
  let s1 := { s with groups := replaceGroup e' s.groups }
  let s2 := if e'.ready && decide (e'.untaken.get k = 0) then s1.modBay k (Bay.orderGone e'.cls) else s1
  if e'.taken = e'.count then
    ({ s2 with groups := s2.groups.filter fun x => decide (x.id ≠ e'.id) }).report .orderCollected k.toNat r.tag r.order
  else s2

/-- A record taken from bay k is handed to the Assembly Unit (R126, R127). A record with a group part always has
its entry (R127); without one there is nothing to count. -/
def State.assemblyTaken (k : Ix) (r : LandingRec) (s : State) : State :=
  match r.group with
  | none => s.singleTaken k r
  | some g =>
    match s.groups.find? fun x => decide (x.id = g.id) with
    | some e => s.memberTaken k r e
    | none => s

/-- The front record of landing list k is removed as TAKEN; `detail` is k at the front eye (R94) and 3 + k by
BAY CLEAR (R97). -/
def State.takeFront (k : Ix) (detail : Nat) (s : State) : State :=
  match (s.bays.get k).landing with
  | [] => s
  | r :: rest =>
    let s1 := s.modBay k fun b => { b with landing := rest }
    let s2 := if s.params.reportLandings = 1 then s1.report .taken detail r.tag r.order else s1
    if r.unexpected then s2 else s2.assemblyTaken k r

/-- n records removed one by one, front first (R97, R128). -/
def State.takeMany (k : Ix) (detail : Nat) : Nat → State → State
  | 0, s => s
  | n + 1, s => State.takeMany k detail n (s.takeFront k detail)

end Sys2Proof.Machine
end

