-- ==== Sys2Proof/Machine/Operands.lean ====
section
/-! DEFINITION. The forms in which totes, groups and route entries travel in payloads (R24, R25, R38, R62, R172). -/

namespace Sys2Proof.Machine

/-- R38: a dest from 128 to 255 becomes 0. -/
def normDest (b : Byte) : BitVec 7 := if b.toNat < 128 then BitVec.ofNat 7 b.toNat else 0

/-- R38: an origin from 62 to 255 becomes 61. -/
def normOrigin (b : Byte) : Nat := if b.toNat < 62 then b.toNat else 61

/-- R25: a group part with values outside its ranges is made absent. -/
def normGroup (id count index : Nat) : Option GroupPart :=
  if 1 ≤ id ∧ id ≤ 65535 ∧ 2 ≤ count ∧ count ≤ 8 ∧ 1 ≤ index ∧ index ≤ count then some ⟨id, count, index⟩ else none

def clsOfBit (b : Bool) : Cls := if b then .rush else .staged

def sizeOfBit (b : Bool) : Size := if b then .large else .small

/-- The group part of a payload: id in two bytes, count and index in one (R172), normalised (R25). -/
def groupOfBytes (hi lo ci : Byte) : Option GroupPart :=
  normGroup (beNat [hi, lo]) (ci.toNat / 16) (ci.toNat % 16)

/-- The identity fields that start at the tag of a NOTICE or SPUR NOTICE payload (R172), normalised (R38). -/
def identOfBytes (tag order : List Byte) (dest attr : Byte) (group : Option GroupPart) (origin : Nat) : Ident where
  tag := BitVec.ofNat 32 (beNat tag)
  order := BitVec.ofNat 24 (beNat order)
  dest := normDest dest
  cls := clsOfBit (attr.getLsbD 0)
  size := sizeOfBit (attr.getLsbD 1)
  group := group
  origin := origin

/-- A NOTICE payload: its sequence number and its tote (R172, R38). None where LEN does not fit (R166). -/
def decodeNotice : List Byte → Option (Byte × Ident)
  | [q, t0, t1, t2, t3, o0, o1, o2, dest, attr, origin] =>
    if attr.getLsbD 2 then none
    else some (q, identOfBytes [t0, t1, t2, t3] [o0, o1, o2] dest attr none (normOrigin origin))
  | [q, t0, t1, t2, t3, o0, o1, o2, dest, attr, g0, g1, ci, origin] =>
    if attr.getLsbD 2 then
      some (q, identOfBytes [t0, t1, t2, t3] [o0, o1, o2] dest attr (groupOfBytes g0 g1 ci) (normOrigin origin))
    else none
  | _ => none

/-- A SPUR NOTICE payload after its spur byte; the origin is this node's address (R24, R100). None where the
length does not fit the group bit. -/
def decodeSpurNotice (address : Nat) : List Byte → Option (Byte × Ident)
  | [sp, t0, t1, t2, t3, o0, o1, o2, dest, attr] =>
    if attr.getLsbD 2 then none
    else some (sp, identOfBytes [t0, t1, t2, t3] [o0, o1, o2] dest attr none address)
  | [sp, t0, t1, t2, t3, o0, o1, o2, dest, attr, g0, g1, ci] =>
    if attr.getLsbD 2 then
      some (sp, identOfBytes [t0, t1, t2, t3] [o0, o1, o2] dest attr (groupOfBytes g0 g1 ci) address)
    else none
  | _ => none

/-- The identity fields of a stray (R24): tag as taken, or 0. -/
def strayIdent (tag : BitVec 32) (address : Nat) : Ident := ⟨tag, 0, 0, .staged, .small, none, address⟩

/-- Pairs of bytes. -/
def pairsOf : List Byte → List (Byte × Byte)
  | a :: b :: rest => (a, b) :: pairsOf rest
  | _ => []

/-- Parameter pairs: an id and a 16-bit value (R172). -/
def triplesOf : List Byte → List (Byte × Nat)
  | a :: b :: c :: rest => (a, beNat [b, c]) :: triplesOf rest
  | _ => []

/-! ### Route entries (R62, R172) -/

/-- The alternate field of a LAND entry: Fh for none, a bay, or not valid. -/
def decodeAlternate (n : Nat) : Option (Option Ix) :=
  if n = 15 then some none else (Ix.ofNat? n).map some

/-- A route entry from its two bytes; none where they are not well formed (R62). -/
def decodeRoute (kind second : Byte) : Option RouteEntry :=
  match kind.toNat with
  | 0 => some .pass
  | 1 =>
    (Ix.ofNat? (second.toNat % 16)).bind fun p =>
      (decodeAlternate (second.toNat / 16)).bind fun a =>
        if a = some p then none else some (.land p a)
  | 2 =>
    if second.toNat = 0 ∨ 8 ≤ second.toNat then none
    else some (.best ⟨second.getLsbD 0, second.getLsbD 1, second.getLsbD 2⟩)
  | _ => none

/-- The two bytes of a route entry (R172). -/
def encodeRoute : RouteEntry → List Byte
  | .pass => [0x00, 0x00]
  | .land p a => [0x01, byte (p.toNat + 16 * (match a with | some k => k.toNat | none => 15))]
  | .best m => [0x02, byte ((if m.x0 then 1 else 0) + (if m.x1 then 2 else 0) + (if m.x2 then 4 else 0))]

/-- The entry for a destination code is well formed: its bytes are, and entry 0 is PASS (R62). -/
def decodeRouteAt (index : Nat) (b : Byte × Byte) : Option RouteEntry :=
  match decodeRoute b.1 b.2 with
  | some e => if index = 0 ∧ e ≠ .pass then none else some e
  | none => none

/-- The entries of a ROUTE WRITE from the destination code `index` on, or the code of the first entry that is not
well formed (R63). -/
def decodeRoutes (index : Nat) : List (Byte × Byte) → Except Nat (List RouteEntry)
  | [] => .ok []
  | b :: bs =>
    match decodeRouteAt index b with
    | none => .error index
    | some e =>
      match decodeRoutes (index + 1) bs with
      | .ok es => .ok (e :: es)
      | .error n => .error n

/-- A bank with its entries from `first` on replaced (R63). -/
def replaceFrom (first : Nat) (es bank : List RouteEntry) : List RouteEntry :=
  bank.take first ++ es ++ bank.drop (first + es.length)

end Sys2Proof.Machine
end

