-- ==== Sys2Proof/Machine/Flags.lean ====
section
/-! DEFINITION. The flag and field bytes that show a record outside: the attribute byte of a NOTICE and the list
record of R172. -/

namespace Sys2Proof.Machine

/-- A bit's weight where it is set. -/
def bitAt (b : Bool) (n : Nat) : Nat := if b then 2 ^ n else 0

/-- The attribute byte of R172: bit 0 class, bit 1 size, bit 2 group part present. -/
def attrByte (i : Ident) : Byte :=
  byte (bitAt (decide (i.cls = .rush)) 0 + bitAt (decide (i.size = .large)) 1 + bitAt i.group.isSome 2)

/-- Group id in two bytes, count and index in one; zeros where absent (R172). -/
def groupBytes : Option GroupPart → List Byte
  | some g => be16 g.id ++ [byte (16 * g.count + g.index)]
  | none => [0, 0, 0]

/-- The NOTICE payload of a tote leaving with a claimed sequence number (R56, R172). -/
def noticePayload (q : Byte) (i : Ident) : List Byte :=
  [q] ++ be32 i.tag.toNat ++ be24 i.order.toNat ++ [byte i.dest.toNat, attrByte i] ++
    (match i.group with | some g => groupBytes (some g) | none => []) ++ [byte i.origin]

/-- The decision field: 0 PASS, 1 to 3 LAND at bay 0 to 2 (R172). -/
def Decision.code : Decision → Nat
  | .pass => 0
  | .land k => k.toNat + 1

/-- The state field of a zone record (R172). -/
def Track.code : Track → Nat
  | .entering _ => 0
  | .riding _ _ => 1
  | .armed _ _ _ _ _ => 2
  | .confirming _ _ _ _ _ => 3

/-- The length of a zone record, 0 where absent (R36). -/
def Track.length : Track → Nat
  | .entering _ => 0
  | .riding l _ => l
  | .armed l _ _ _ _ => l
  | .confirming l _ _ _ _ => l

/-- The 18 bytes of a list record (R172) and, beside them, the exit claim byte of R172's LIST READ layout. -/
structure ListRecord where
  bytes : List Byte
  claim : Byte
deriving DecidableEq, Repr

/-- Bytes 0 to 8 of a record that carries identity fields, with the flag bits 3 to 7 of byte 8. -/
def identBytes (i : Ident) (flags : Nat) : List Byte :=
  be32 i.tag.toNat ++ be24 i.order.toNat ++
    [byte i.dest.toNat, byte ((attrByte i).toNat + flags)]

/-- A zone record as LIST READ returns it. -/
def Tote.listRecord (t : Tote) : ListRecord where
  bytes :=
    identBytes t.ident
      (bitAt t.flags.stray 3 + bitAt t.flags.noRead 4 + bitAt t.flags.lengthMismatch 5 + bitAt t.flags.merged 6 +
        bitAt t.flags.overflow 7) ++
    [byte (t.track.code + 4 * t.decision.code + bitAt t.flags.missed 4 + bitAt t.flags.noRoute 5 +
        bitAt t.claim.isSome 6)] ++
    groupBytes t.ident.group ++ be24 t.lead.toNat ++ be16 t.track.length
  claim := t.claim.getD 0

/-- A notice record as LIST READ returns it: no lead, no length, state 0 (R36). -/
def Notice.listRecord (n : Notice) : ListRecord where
  bytes := identBytes n.ident 0 ++ [0] ++ groupBytes n.ident.group ++ be24 0 ++ be16 0
  claim := 0

def SubState.code : SubState → Nat
  | .announced => 0
  | .atGate => 1

/-- A spur record as LIST READ returns it; `g` is the grant of a GRANTED spur's front record. -/
def SpurRec.listRecord (r : SpurRec) (g : Option Grant) : ListRecord where
  bytes :=
    identBytes r.ident (bitAt r.stray 3 + bitAt (g.any Grant.overflow) 7) ++
    [byte (r.sub.code + 4 * (match g with | some x => x.decision.code | none => 0) +
        bitAt (g.any Grant.noRoute) 5 + bitAt g.isSome 7)] ++
    groupBytes r.ident.group ++ be24 (match g with | some x => x.lead.toNat | none => 0) ++ be16 0
  claim := 0

/-- The grant of a spur state, if it is GRANTED. -/
def SpurState.grant? : SpurState → Option Grant
  | .granted g => some g
  | _ => none

/-- A spur list as LIST READ returns it: the grant shows in the front record (R36). -/
def Spur.listRecords (x : Spur) : List ListRecord :=
  match x.list with
  | [] => []
  | r :: rest => r.listRecord x.st.grant? :: rest.map (SpurRec.listRecord · none)

/-- A landing record as LIST READ returns it: dest 0, size 0, state 1 for UNEXPECTED (R172). -/
def LandingRec.listRecord (r : LandingRec) : ListRecord where
  bytes :=
    be32 r.tag.toNat ++ be24 r.order.toNat ++
    [0, byte (bitAt (decide (r.cls = .rush)) 0 + bitAt r.group.isSome 2), byte (bitAt r.unexpected 0)] ++
    groupBytes r.group ++ be24 0 ++ be16 0
  claim := 0

end Sys2Proof.Machine
end

