-- ==== Sys2Proof/Machine/Line.lean ====
section
/-! DEFINITION. The line ports: the check, the receivers, the forward queues, the local sources and the transmit
arbiters (chapter Line Ports and Frames). -/

namespace Sys2Proof.Machine

/-! ### CHECK (R164) -/

/-- One data bit into the remainder of x^16 + x^12 + x^5 + 1. -/
def crcBit (rem : BitVec 16) (b : Bool) : BitVec 16 :=
  if rem.msb != b then (rem <<< 1) ^^^ 0x1021 else rem <<< 1

/-- One data byte, most significant bit first. -/
def crcByte (rem : BitVec 16) (x : Byte) : BitVec 16 :=
  [7, 6, 5, 4, 3, 2, 1, 0].foldl (fun r i => crcBit r (x.getLsbD i)) rem

/-- The remainder over a run of bytes; it starts at FFFFh. -/
def crc (bs : List Byte) : BitVec 16 := bs.foldl crcByte 0xFFFF

end Sys2Proof.Machine

namespace Sys2Proof

/-- DEST to the last payload character (R163). -/
def Frame.body (f : Frame) : List Byte :=
  [f.dest, f.src, f.kind, f.tag, BitVec.ofNat 8 f.payload.length] ++ f.payload

/-- CHECK, high byte first (R164). -/
def Frame.check (f : Frame) : List Byte := Machine.be16 (Machine.crc f.body).toNat

/-- Bytes as a transmitter sends them in one frame: the mark bit in the first alone, back to back (R162). -/
def Machine.charsOf : List Byte → List LineChar
  | [] => []
  | d :: rest => ⟨d, true, false, false⟩ :: rest.map (⟨·, false, false, false⟩)

/-- The characters of a frame, DEST to CHECK. -/
def Frame.chars (f : Frame) : List LineChar := Machine.charsOf (f.body ++ f.check)

/-- The 11 bits of a character on a line in the order of sending: start bit low, 8 data bits least significant first,
mark bit, stop bit; the stop bit is high but in a framing error (R162). -/
def LineChar.bits (c : LineChar) : List Bool :=
  false :: [0, 1, 2, 3, 4, 5, 6, 7].map c.data.getLsbD ++ [c.mark, !c.framingError]

end Sys2Proof

namespace Sys2Proof.Machine

/-! ### Receivers (R162, R163) -/

/-- The byte whose bits, least significant first, these are. -/
def byteOfBits (bs : List Bool) : Byte := byte (bs.foldr (fun b n => 2 * n + b.toNat) 0)

/-- The character a receiver reports from the 11 bits it has read at their middles: none without a start bit, a
framing error for a stop bit found low (R162). `gap` says how late its start bit fell. -/
def charOfBits (gap : Bool) : List Bool → Option LineChar
  | [false, b0, b1, b2, b3, b4, b5, b6, b7, mark, stop] =>
    some ⟨byteOfBits [b0, b1, b2, b3, b4, b5, b6, b7], mark, !stop, gap⟩
  | _ => none

/-- What a character brings about at a receiver. -/
inductive RxResult
  | quiet
  | abandoned
  | complete (f : Frame)
deriving DecidableEq, Repr

/-- The frame in the bytes of a complete run of LEN + 7 characters, if its CHECK holds (R163, R164). -/
def checkedFrame : List Byte → Option Frame
  | dest :: src :: kind :: tag :: len :: rest =>
    let f : Frame := ⟨dest, src, kind, tag, rest.take len.toNat⟩
    if rest.drop len.toNat = be16 (crc (dest :: src :: kind :: tag :: len :: rest.take len.toNat)).toNat then some f
    else none
  | _ => none

/-- The receiver after an unmarked character in time has been added to a frame (R163). -/
def rxAdded (got : List Byte) : RxState × RxResult :=
  match got with
  | _ :: _ :: _ :: _ :: len :: _ =>
    if Config.lenMax < len.toNat then (.idle, .abandoned)
    else if got.length < len.toNat + 7 then (.inFrame got, .quiet)
    else
      match checkedFrame got with
      | some f => (.idle, .complete f)
      | none => (.idle, .abandoned)
  | _ => (.inFrame got, .quiet)

/-- One character at a receiver: the table of R163. A character in IN_FRAME that is marked and has a framing error meets two rows of
the table; that the framing-error row takes it, so that it starts no frame, is the model's choice (log 25). -/
def rxChar (rx : RxState) (c : LineChar) : RxState × RxResult :=
  match rx with
  | .idle => if c.mark && !c.framingError then (.inFrame [c.data], .quiet) else (.idle, .quiet)
  | .inFrame got =>
    if c.framingError then (.idle, .abandoned)
    else if c.mark then (.inFrame [c.data], .abandoned)
    else if c.gap then (.idle, .abandoned)
    else rxAdded (got ++ [c.data])

/-! ### Ports -/

def Lines.get (l : Lines) : Port → LinePort
  | .U => l.u
  | .D => l.d

def Lines.put (l : Lines) (p : Port) (x : LinePort) : Lines :=
  match p with
  | .U => { l with u := x }
  | .D => { l with d := x }

def State.modPort (p : Port) (f : LinePort → LinePort) (s : State) : State :=
  { s with lines := s.lines.put p (f (s.lines.get p)) }

/-- The first character of a whole frame arrives: a frame still being received is abandoned (R163), and the
receiver is IDLE when the new frame has completed. -/
def State.frameArrives (p : Port) (s : State) : State :=
  match (s.lines.get p).rx with
  | .idle => s
  | .inFrame _ => (s.modPort p fun x => { x with rx := .idle }).offerCheckError (portQual p)

/-- R163: a frame with LEN above 60 is abandoned at its LEN character. -/
def State.frameTooLong (p : Port) (s : State) : State := s.offerCheckError (portQual p)

/-- A frame is placed in the forward queue of the port it is to be sent out of, or dropped where that holds 8
(R167). -/
def State.forward (out : Port) (f : Frame) (s : State) : State :=
  if (s.lines.get out).fwd.length < Config.fwdCap then
    s.modPort out fun x => { x with fwd := x.fwd ++ [f] }
  else s.offerDrop out

/-- A NOTICE is handed to port D; one that finds 8 waiting is discarded (R168). -/
def State.queueNotice (f : Frame) (s : State) : State :=
  if s.lines.notices.length < Config.noticeCap then
    { s with lines := { s.lines with notices := s.lines.notices ++ [f] } }
  else s.offerDrop .D

/-- A frame of the node's own carries its address in SRC (R165). -/
def State.ownFrame (s : State) (dest : Nat) (kind tag : Byte) (payload : List Byte) : Frame :=
  ⟨byte dest, byte s.node.address, kind, tag, payload⟩

/-- The NOTICE of a record leaving with sequence number q (R56, R168). -/
def State.noticeFrame (s : State) (q : Byte) (i : Ident) : Frame := s.ownFrame 62 0x01 0 (noticePayload q i)

/-- A CREDIT frame filled from the admission side as it stands (R137, R172). -/
def State.creditFrame (s : State) : Frame :=
  s.ownFrame 62 0x02 0
    (match s.credit.mode with
    | .sync => [0x01, byte s.credit.o, 0x00]
    | .locked => [0x02, s.credit.g, s.credit.r])

/-- The nine bytes of a report entry (R172). -/
def Report.bytes (r : Report) : List Byte :=
  [byte r.kind.code, r.detail] ++ be32 r.tag.toNat ++ be24 r.order.toNat

/-- A REPORT frame with the oldest entries, up to 4, and the dropped count (R180). -/
def State.reportFrame (s : State) : Frame :=
  let es := s.reports.take Config.reportFrameEntries
  s.ownFrame 0 0x03 s.lines.seq ([byte s.dropped, byte es.length] ++ es.flatMap Report.bytes)

/-! ### Transmit arbiters (R169) -/

/-- A CREDIT frame is requested; a request that finds 16 waiting is not counted (R137). -/
def CreditUnit.request (n : Nat) (c : CreditUnit) : CreditUnit :=
  { c with waiting := min Config.creditWaitCap (c.waiting + n) }

/-- What the arbiter of a port chooses (R169). -/
inductive Choice
  | credit | notice | response | forward | report
deriving DecidableEq, Repr

/-- Whether a source has a frame waiting at a port (R168). -/
def State.sourceWaits (s : State) (p : Port) : Choice → Bool
  | .credit => decide (p = .U) && decide (0 < s.credit.waiting)
  | .notice => decide (p = .D) && !s.lines.notices.isEmpty
  | .response => !(s.lines.get p).responses.isEmpty
  | .forward => !(s.lines.get p).fwd.isEmpty
  | .report => decide (p = .U) && (!s.reports.isEmpty || decide (0 < s.dropped))

/-- The arbiter's choice: the forward queue's head when the passed count stands at 4, else by priority (R169). -/
def State.choose (s : State) (p : Port) : Option Choice :=
  if Config.passedMax ≤ (s.lines.get p).passed ∧ s.sourceWaits p .forward = true then some .forward
  else [Choice.credit, .notice, .response, .forward, .report].find? (s.sourceWaits p)

/-- A local frame is started: the passed count rises while the forward queue holds a frame (R169). -/
def LinePort.startLocal (f : OutFrame) (x : LinePort) : LinePort :=
  { x with tx := some f, passed := if x.fwd.isEmpty then x.passed else x.passed + 1 }

/-- The transmitter of a port starts the chosen frame, filled where its source fills at the start (R168). Two choices of
the model's: a CREDIT frame leaves the count of waiting frames as it starts, R137 leaving open when in its sending the
count falls (log 21); and a NOTICE or a response leaves its queue as it starts, so that the frame being sent takes none
of the queue's 8 or 4 places, R168 leaving that open and R167 saying it of the forward queue alone (log 22). -/
def State.startFrame (p : Port) (c : Choice) (s : State) : State :=
  match c with
  | .credit =>
    { s.modPort p (LinePort.startLocal ⟨s.creditFrame, false⟩) with
      credit := { s.credit with waiting := s.credit.waiting - 1 } }
  | .notice =>
    match s.lines.notices with
    | [] => s
    | f :: rest => ({ s with lines := { s.lines with notices := rest } }).modPort p (LinePort.startLocal ⟨f, false⟩)
  | .response =>
    match (s.lines.get p).responses with
    | [] => s
    | f :: rest => s.modPort p fun x => { x.startLocal f with responses := rest }
  | .forward =>
    match (s.lines.get p).fwd with
    | [] => s
    | f :: rest => s.modPort p fun x => { x with tx := some ⟨f, false⟩, fwd := rest, passed := 0 }
  | .report =>
    let s' := s.modPort p (LinePort.startLocal ⟨s.reportFrame, false⟩)
    { s' with
      lines := { s'.lines with seq := s'.lines.seq + 1 }
      reports := s.reports.drop Config.reportFrameEntries
      dropped := 0 }

/-- The arbiter of a port chooses when its transmitter is free and a frame is waiting (R169). -/
def State.pump (p : Port) (s : State) : State :=
  match (s.lines.get p).tx with
  | some _ => s
  | none =>
    match s.choose p with
    | some c => s.startFrame p c
    | none => s

/-- The end of every event: a window stays driven only while belt-run is on (R8), and each free transmitter takes
the next waiting frame (R169, log 9). -/
def State.finish (s : State) : State :=
  (({ s with pos := { s.pos with windowDriven := s.pos.windowDriven && s.beltRun } }).pump .U).pump .D

end Sys2Proof.Machine
end

