-- ==== Sys2Proof/Machine/Credit.lean ====
section
/-! DEFINITION. The Credit Unit: grants, the count of notices, the exit side's view, claims and exit hold (chapter
Admission Credits and Zone Exit). -/

namespace Sys2Proof.Machine

/-! ### Grants (R136) -/

/-- How many credits the conditions of R136 let be granted in one event: each grant raises o and the budget sum by
one, and the granting stops at the first after which o stands at UP_LIMIT or the sum at ZONE_BUDGET. -/
def State.grantCount (s : State) : Nat :=
  if s.tracking then min (s.params.upLimit - s.credit.o) (s.params.zoneBudget - s.budget) else 0

/-- n grants: o rises directly in SYNC, with g in LOCKED, and each requests a CREDIT frame (R136, R137). -/
def CreditUnit.grant (n : Nat) (c : CreditUnit) : CreditUnit :=
  let c' := c.request n
  match c.mode with
  | .sync => { c' with o := c.o + n }
  | .locked => { c' with o := c.o + n, g := c.g + BitVec.ofNat 8 n }

/-- The grant test of an event (R136). -/
def State.grantCredits (s : State) : State := { s with credit := s.credit.grant s.grantCount }

/-! ### Notices at the admission side (R138, R139) -/

/-- A NOTICE taken in SYNC (R138). -/
def State.noticeInSync (q : Byte) (i : Ident) (s : State) : State :=
  let c := s.credit
  let o := c.o - 1
  let s' := if c.o = 0 then s.report .noticeBeyondCredit 0 i.tag i.order else s
  { s' with credit := { c with mode := .locked, o := o, r := q + 1, g := q + 1 + BitVec.ofNat 8 o } }

/-- The gap gp of R139. -/
def CreditUnit.gapOf (c : CreditUnit) (q : Byte) : Nat := (q - c.r).toNat

/-- A notice that is not stale advances the count of a LOCKED side, steps 2 to 4 of R139. -/
def State.noticeLocked (q : Byte) (i : Ident) (s : State) : State :=
  let c := s.credit
  let gp := c.gapOf q
  let s1 := if 0 < gp then s.report .noticeGap gp i.tag i.order else s
  let r := q + 1
  if 128 ≤ (c.g - r).toNat then
    { s1.report .noticeBeyondCredit 1 i.tag i.order with credit := { c with r := r, g := r, o := 0 } }
  else { s1 with credit := { c with r := r, o := (c.g - r).toNat } }

/-- The admission side's work for a NOTICE: the state, and whether the notice is handed to the Tracker (R138,
R139). -/
def State.admission (q : Byte) (i : Ident) (s : State) : State × Bool :=
  match s.credit.mode with
  | .sync => (s.noticeInSync q i, true)
  | .locked =>
    if 128 ≤ s.credit.gapOf q then
      (s.report .noticeStale (s.credit.r - q).toNat i.tag i.order, false)
    else (s.noticeLocked q i, true)

/-! ### The exit side (R142 to R145) -/

/-- The view a (R142). -/
def CreditUnit.view (c : CreditUnit) : Nat := (c.G - c.s).toNat

/-- The clamp of R145. -/
def CreditUnit.clampView (c : CreditUnit) : CreditUnit :=
  if Config.viewMax < c.view then { c with G := c.s } else c

/-- A CREDIT frame with the SYNC flag (R143). -/
def CreditUnit.syncFrame (value : Byte) (c : CreditUnit) : CreditUnit :=
  ({ c with G := c.s + value, unsynced := false } : CreditUnit).clampView

/-- The resynchronisation a LOCKED frame calls for (R144). -/
def CreditUnit.mustResync (g : Byte) (c : CreditUnit) : Bool :=
  c.unsynced || decide (Config.viewMax < (g - c.s).toNat)

/-- A CREDIT frame with the LOCKED flag (R144). -/
def CreditUnit.lockedFrame (g r : Byte) (c : CreditUnit) : CreditUnit :=
  (if c.mustResync g then { c with G := g, s := r, unsynced := false } else { c with G := g }).clampView

/-- A claim takes s and s rises by one; then the clamp test (R147, R57, R145). -/
def CreditUnit.claim (c : CreditUnit) : CreditUnit :=
  ({ c with s := c.s + 1 } : CreditUnit).clampView

/-! ### Claims and exit hold (R146 to R148) -/

/-- The claim candidate's tests over the zone list, front first, on a node that is not terminal (R146, R147). The
candidate is the first record without a claim. A candidate for which exit hold is set has reached its hold point
already, and a reverse step does not undo that (R4, log 15). -/
def claimWalk (P : Pos) (hold : Nat) : List Tote → CreditUnit → List Tote × CreditUnit
  | [], c => ([], { c with exitHold := false })
  | t :: rest, c =>
    match t.track with
    | .riding len none =>
      if c.exitHold || reached P (posAdd t.lead hold) then
        if 1 ≤ c.view then
          let w := claimWalk P hold rest { c.claim with exitHold := false }
          ({ t with track := .riding len (some c.s) } :: w.1, w.2)
        else (t :: rest, { c with exitHold := true })
      else (t :: rest, { c with exitHold := false })
    | .riding _ (some _) =>
      let w := claimWalk P hold rest c
      (t :: w.1, w.2)
    | _ => (t :: rest, { c with exitHold := false })

/-- The claims of an event; a terminal node makes none and never holds its exit (R149). -/
def State.claims (s : State) : State :=
  if s.params.terminal = 1 then { s with credit := { s.credit with exitHold := false } }
  else
    let w := claimWalk s.pos.P s.params.holdPoint s.zone s.credit
    { s with zone := w.1, credit := w.2 }

end Sys2Proof.Machine
end

