-- ==== Sys2Proof/Machine/Params.lean ====
section
/-! DEFINITION. The parameter set by id: its table (R176), its ranges and classes, and the tests of SET PARAMETERS. -/

namespace Sys2Proof.Machine

/-- The parameters of R176, the bay and spur ones with their index. -/
inductive ParamId
  | encDiv | speedWin | entryFilter | gateFilter | bayFilter | lenSmall | lenLarge | lenTol | gap | jamLen
  | zoneExit | holdPoint | dueDist | stallMs | tagEnable | tagHold | mergeMinSpeed | zoneBudget | upLimit
  | terminal | patience | chuteJamMs | lampStepS | chimeMs | reportLandings
  | bayCap (k : Ix) | bayRush (k : Ix) | bayOffset (k : Ix) | bayLatency (k : Ix) | bayPulse (k : Ix)
  | bayConfirm (k : Ix)
  | spurEnable (i : Ix) | spurMerge (i : Ix) | spurAdj (i : Ix) | spurGateMs (i : Ix) | spurReleaseMs (i : Ix)
deriving DecidableEq, Repr

/-- The parameters of ids 01h to 19h in id order. -/
def zoneParamIds : List ParamId :=
  [.encDiv, .speedWin, .entryFilter, .gateFilter, .bayFilter, .lenSmall, .lenLarge, .lenTol, .gap, .jamLen,
   .zoneExit, .holdPoint, .dueDist, .stallMs, .tagEnable, .tagHold, .mergeMinSpeed, .zoneBudget, .upLimit,
   .terminal, .patience, .chuteJamMs, .lampStepS, .chimeMs, .reportLandings]

/-- The parameters of bay k in id order from 20h + 8k. -/
def bayParamIds (k : Ix) : List ParamId :=
  [.bayCap k, .bayRush k, .bayOffset k, .bayLatency k, .bayPulse k, .bayConfirm k]

/-- The parameters of spur i in id order from 40h + 8i. -/
def spurParamIds (i : Ix) : List ParamId :=
  [.spurEnable i, .spurMerge i, .spurAdj i, .spurGateMs i, .spurReleaseMs i]

/-- The parameter of an id byte; none where the id is not in the table (R176). -/
def ParamId.ofByte (b : Byte) : Option ParamId :=
  let n := b.toNat
  if n = 0 then none
  else if n < 0x20 then zoneParamIds[n - 1]?
  else if n < 0x40 then (Ix.ofNat? ((n - 0x20) / 8)).bind fun k => (bayParamIds k)[(n - 0x20) % 8]?
  else (Ix.ofNat? ((n - 0x40) / 8)).bind fun i => (spurParamIds i)[(n - 0x40) % 8]?

/-- The value lies in the parameter's range or set (R176). -/
def ParamId.valueOk (p : ParamId) (v : Nat) : Bool :=
  match p with
  | .encDiv => decide (v ∈ [1, 2, 4, 8])
  | .speedWin => decide (v ∈ [8, 16, 32, 64])
  | .entryFilter | .gateFilter | .bayFilter => decide (1 ≤ v ∧ v ≤ 15)
  | .lenSmall | .lenLarge => decide (100 ≤ v ∧ v ≤ 4000)
  | .lenTol | .gap => decide (v ≤ 1000)
  | .jamLen => decide (200 ≤ v ∧ v ≤ 16000)
  | .zoneExit => decide (500 ≤ v ∧ v ≤ 65535)
  | .holdPoint => decide (1 ≤ v ∧ v ≤ 65534)
  | .dueDist => decide (100 ≤ v ∧ v ≤ 65535)
  | .stallMs => decide (100 ≤ v ∧ v ≤ 5000)
  | .tagEnable | .terminal | .reportLandings => decide (v ≤ 1)
  | .tagHold => decide (50 ≤ v ∧ v ≤ 4000)
  | .mergeMinSpeed => decide (1 ≤ v ∧ v ≤ 1000)
  | .zoneBudget => decide (4 ≤ v ∧ v ≤ 24)
  | .upLimit => decide (1 ≤ v ∧ v ≤ 16)
  | .patience => decide (1 ≤ v ∧ v ≤ 15)
  | .chuteJamMs => decide (500 ≤ v ∧ v ≤ 10000)
  | .lampStepS => decide (1 ≤ v ∧ v ≤ 255)
  | .chimeMs => decide (50 ≤ v ∧ v ≤ 2000)
  | .bayCap _ => decide (v ≤ 8)
  | .bayRush _ => decide (v ≤ 7)
  | .bayOffset _ => decide (100 ≤ v ∧ v ≤ 65535)
  | .bayLatency _ => decide (v ≤ 255)
  | .bayPulse _ => decide (20 ≤ v ∧ v ≤ 500)
  | .bayConfirm _ => decide (50 ≤ v ∧ v ≤ 2000)
  | .spurEnable _ => decide (v ≤ 1)
  | .spurMerge _ => decide (100 ≤ v ∧ v ≤ 65535)
  | .spurAdj _ => decide (v ≤ 4000)
  | .spurGateMs _ => decide (50 ≤ v ∧ v ≤ 1000)
  | .spurReleaseMs _ => decide (100 ≤ v ∧ v ≤ 5000)

/-- CONFIG-class: class C of R176. The L-class ones are written in any state. -/
def ParamId.configClass : ParamId → Bool
  | .patience | .chuteJamMs | .lampStepS | .chimeMs | .reportLandings => false
  | _ => true

def Params.get (q : Params) : ParamId → Nat
  | .encDiv => q.encDiv
  | .speedWin => q.speedWin
  | .entryFilter => q.entryFilter
  | .gateFilter => q.gateFilter
  | .bayFilter => q.bayFilter
  | .lenSmall => q.lenSmall
  | .lenLarge => q.lenLarge
  | .lenTol => q.lenTol
  | .gap => q.gap
  | .jamLen => q.jamLen
  | .zoneExit => q.zoneExit
  | .holdPoint => q.holdPoint
  | .dueDist => q.dueDist
  | .stallMs => q.stallMs
  | .tagEnable => q.tagEnable
  | .tagHold => q.tagHold
  | .mergeMinSpeed => q.mergeMinSpeed
  | .zoneBudget => q.zoneBudget
  | .upLimit => q.upLimit
  | .terminal => q.terminal
  | .patience => q.patience
  | .chuteJamMs => q.chuteJamMs
  | .lampStepS => q.lampStepS
  | .chimeMs => q.chimeMs
  | .reportLandings => q.reportLandings
  | .bayCap k => (q.bay.get k).cap
  | .bayRush k => (q.bay.get k).rush
  | .bayOffset k => (q.bay.get k).offset
  | .bayLatency k => (q.bay.get k).latency
  | .bayPulse k => (q.bay.get k).pulse
  | .bayConfirm k => (q.bay.get k).confirm
  | .spurEnable i => (q.spur.get i).enable
  | .spurMerge i => (q.spur.get i).merge
  | .spurAdj i => (q.spur.get i).adj
  | .spurGateMs i => (q.spur.get i).gateMs
  | .spurReleaseMs i => (q.spur.get i).releaseMs

def Params.put (q : Params) (p : ParamId) (v : Nat) : Params :=
  match p with
  | .encDiv => { q with encDiv := v }
  | .speedWin => { q with speedWin := v }
  | .entryFilter => { q with entryFilter := v }
  | .gateFilter => { q with gateFilter := v }
  | .bayFilter => { q with bayFilter := v }
  | .lenSmall => { q with lenSmall := v }
  | .lenLarge => { q with lenLarge := v }
  | .lenTol => { q with lenTol := v }
  | .gap => { q with gap := v }
  | .jamLen => { q with jamLen := v }
  | .zoneExit => { q with zoneExit := v }
  | .holdPoint => { q with holdPoint := v }
  | .dueDist => { q with dueDist := v }
  | .stallMs => { q with stallMs := v }
  | .tagEnable => { q with tagEnable := v }
  | .tagHold => { q with tagHold := v }
  | .mergeMinSpeed => { q with mergeMinSpeed := v }
  | .zoneBudget => { q with zoneBudget := v }
  | .upLimit => { q with upLimit := v }
  | .terminal => { q with terminal := v }
  | .patience => { q with patience := v }
  | .chuteJamMs => { q with chuteJamMs := v }
  | .lampStepS => { q with lampStepS := v }
  | .chimeMs => { q with chimeMs := v }
  | .reportLandings => { q with reportLandings := v }
  | .bayCap k => { q with bay := q.bay.modify k fun b => { b with cap := v } }
  | .bayRush k => { q with bay := q.bay.modify k fun b => { b with rush := v } }
  | .bayOffset k => { q with bay := q.bay.modify k fun b => { b with offset := v } }
  | .bayLatency k => { q with bay := q.bay.modify k fun b => { b with latency := v } }
  | .bayPulse k => { q with bay := q.bay.modify k fun b => { b with pulse := v } }
  | .bayConfirm k => { q with bay := q.bay.modify k fun b => { b with confirm := v } }
  | .spurEnable i => { q with spur := q.spur.modify i fun x => { x with enable := v } }
  | .spurMerge i => { q with spur := q.spur.modify i fun x => { x with merge := v } }
  | .spurAdj i => { q with spur := q.spur.modify i fun x => { x with adj := v } }
  | .spurGateMs i => { q with spur := q.spur.modify i fun x => { x with gateMs := v } }
  | .spurReleaseMs i => { q with spur := q.spur.modify i fun x => { x with releaseMs := v } }

/-- Whether every parameter lies in its range (R176). -/
def Params.inRange (q : Params) : Bool :=
  (zoneParamIds ++ Ix.all.flatMap bayParamIds ++ Ix.all.flatMap spurParamIds).all fun p => p.valueOk (q.get p)

/-! ### The START constraints (R22) -/

/-- A constraint that failed: its number and the spur and bay it names (R22, R175). -/
structure SetupFault where
  constraint : Nat
  spur : Option Ix
  bay : Option Ix
deriving DecidableEq, Repr

def Params.bayEnabled (q : Params) (k : Ix) : Bool := decide (1 ≤ (q.bay.get k).cap)

def Params.spurEnabled (q : Params) (i : Ix) : Bool := decide ((q.spur.get i).enable = 1)

/-- The constraint tests in the order of the table of R22: each with what it names and whether it holds. The
sums are ordinary integers. -/
def Params.setupTests (q : Params) : List (SetupFault × Bool) :=
  let bays := Ix.all.filter q.bayEnabled
  let spurs := Ix.all.filter q.spurEnabled
  [(⟨1, none, none⟩, decide (q.holdPoint < q.zoneExit)),
   (⟨2, none, none⟩, decide (q.lenLarge < q.jamLen)),
   (⟨3, none, none⟩, decide (q.lenSmall ≤ q.lenLarge)),
   (⟨4, none, none⟩, decide (q.upLimit ≤ q.zoneBudget))] ++
  bays.map (fun k => (⟨5, none, some k⟩, decide ((q.bay.get k).rush < (q.bay.get k).cap))) ++
  bays.map (fun k => (⟨6, none, some k⟩,
    decide ((q.bay.get k).offset + q.lenLarge + (q.bay.get k).confirm < q.holdPoint))) ++
  spurs.map (fun i => (⟨7, some i, none⟩,
    decide (q.lenLarge + q.gap + (q.spur.get i).adj ≤ (q.spur.get i).merge))) ++
  spurs.flatMap (fun i => bays.map fun k => (⟨8, some i, some k⟩,
    decide ((q.spur.get i).merge + q.lenLarge + q.gap < (q.bay.get k).offset))) ++
  spurs.map (fun i => (⟨9, some i, none⟩,
    decide ((q.spur.get i).merge + q.lenLarge < q.holdPoint)))

/-- The first constraint that fails, if any (R22). -/
def Params.setupFault (q : Params) : Option SetupFault :=
  (q.setupTests.find? fun t => !t.2).map Prod.fst

end Sys2Proof.Machine
end

