-- ==== Sys2Proof/Machine/Divert.lean ====
section
/-! DEFINITION. The Divert Unit: arming, firing, misses (chapter Divert, Confirmation and Landing Lanes). -/

namespace Sys2Proof.Machine

/-- The causes of a missed divert with their codes (the table before R84). -/
inductive MissCause
  | exit | late | halted | window | blocked
deriving DecidableEq, Repr

def MissCause.code : MissCause → Nat
  | .exit => 0
  | .late => 1
  | .halted => 2
  | .window => 3
  | .blocked => 4

/-- R79: the fire base, late limit and fire target of a LAND record at bay k. -/
def State.armedTrack (s : State) (lead : Pos) (len : Nat) (k : Ix) : Track :=
  let b := s.params.bay.get k
  let base := posAdd (posAdd lead b.offset) (len / 2)
  .armed len k base (posAdd base b.confirm) (posSub base (s.pos.comp.get k))

/-- What a missed divert leaves behind outside the record: the reservation released, DIVERT_MISS reported and offered
(R58, R84, R86). -/
def State.missEffects (c : MissCause) (k : Ix) (i : Ident) (s : State) : State :=
  ((s.release k).report .divertMiss (3 * c.code + k.toNat) i.tag i.order).offer .divertMiss (some i.cls) (some k.toNat)

/-- A record whose divert has missed: RIDING, PASS, MISSED (R84, R86). -/
def Tote.missed (t : Tote) (len : Nat) : Tote :=
  { t with flags := { t.flags with missed := true }, track := .riding len none }

/-- The paddle of bay k fires: its pulse is started or restarted (R83). -/
def State.firePaddle (k : Ix) (s : State) : State :=
  s.modBay k fun b => { b with paddle := some (s.params.bay.get k).pulse }

/-- The tests of an ARMED record in their order (R81). Any other record is left as it is. -/
def State.testArmed (t : Tote) (s : State) : Tote × State :=
  match t.track with
  | .armed len k base late target =>
    if reached s.pos.P late then (t.missed len, s.missEffects .late k t.ident)
    else if reached s.pos.P target then
      match s.node.state with
      | .halt => (t.missed len, s.missEffects .halted k t.ident)
      | .run =>
        if (s.bays.get k).blocked then (t.missed len, s.missEffects .blocked k t.ident)
        else
          ({ t with track := .confirming len k base s.pos.P (posAdd s.pos.P (s.params.bay.get k).confirm) },
            s.firePaddle k)
      | .config => (t, s)
    else (t, s)
  | _ => (t, s)

/-- The Divert Unit's tests of one record at a position change: R81 for an ARMED one, the window end of R86 for a
CONFIRMING one. -/
def State.testDivert (t : Tote) (s : State) : Tote × State :=
  match t.track with
  | .confirming len k _ _ windowEnd =>
    if reached s.pos.P windowEnd then (t.missed len, s.missEffects .window k t.ident) else (t, s)
  | _ => s.testArmed t

/-- A test applied to each record of a list, front first (R82). -/
def walkZone (test : Tote → State → Tote × State) : List Tote → State → List Tote × State
  | [], s => ([], s)
  | t :: rest, s =>
    let a := test t s
    let w := walkZone test rest a.2
    (a.1 :: w.1, w.2)

/-- The Divert Unit's tests over the zone list. -/
def State.divertTests (test : Tote → State → Tote × State) (s : State) : State :=
  let w := walkZone test s.zone s
  { w.2 with zone := w.1 }

/-- An ARMED record's fire target set anew from the compensations as they stand (R80). -/
def State.retarget (s : State) (t : Tote) : Tote :=
  match t.track with
  | .armed len k base late _ => { t with track := .armed len k base late (posSub base (s.pos.comp.get k)) }
  | _ => t

/-- The record nearest the front that is CONFIRMING for bay k, with the list it leaves behind (R87). -/
def takeConfirming (k : Ix) : List Tote → Option (Tote × List Tote)
  | [] => none
  | t :: rest =>
    let here := match t.track with
      | .confirming _ k' _ _ _ => decide (k' = k)
      | _ => false
    if here then some (t, rest)
    else (takeConfirming k rest).map fun x => (x.1, t :: x.2)

end Sys2Proof.Machine
end

