-- ==== Sys2Proof/Machine/Node.lean ====
section
/-! DEFINITION. Node Control: entering HALT and CONFIG, and the end of a grant that a HALT or a release timeout
brings (chapters Stops, Halts and Node States; Merging from Pick Spurs). -/

namespace Sys2Proof.Machine

/-- A grant ends without the tote: timers stopped, gate off, the reservation released, the record AT_GATE without its
decision, the spur BLOCKED and SPUR_STUCK reported (R113, R114). -/
def State.stickSpur (i : Ix) (detail : Nat) (s : State) : State :=
  match (s.spurs.get i).st with
  | .granted g =>
    let s' := (s.releaseDecision g.decision).modSpur i fun x =>
      { x with st := .blocked, gateTimer := none, releaseTimer := none }
    match (s.spurs.get i).list with
    | r :: _ => s'.report .spurStuck detail r.ident.tag r.ident.order
    | [] => s'
  | _ => s

/-- A paddle pulse stopped without expiry (R83). -/
def Bay.cutPulse (b : Bay) : Bay := { b with paddle := none }

/-- A bay at CONFIG entry: reserved 0 and the pulse stopped; the lane side is kept (R157). -/
def Bay.atConfig (b : Bay) : Bay := { b with reserved := 0, paddle := none }

/-- The five effects of entering HALT, in the order of R155. Only a node in RUN enters HALT; a cause raised
otherwise is not recorded. -/
def State.enterHalt (c : HaltCause) (s : State) : State :=
  match s.node.state with
  | .run =>
    let s1 := { s with node := { s.node with state := .halt, cause := c } }
    let s2 := s1.report .halted c.code 0 0
    let s3 := { s2 with bays := s2.bays.map Bay.cutPulse }
    ((s3.stickSpur .i0 3).stickSpur .i1 4).stickSpur .i2 5
  | _ => s

/-- A spur at CONFIG entry: its list discarded, EMPTY, timers stopped; the passed-over count is kept (R118). -/
def Spur.discarded (x : Spur) : Spur := { x with st := .empty, list := [], gateTimer := none, releaseTimer := none }

/-- CONFIG entry from RUN or HALT (R157). -/
def State.enterConfig (s : State) : State :=
  let n := s.expected.length + s.zone.length
  let s1 := { s with expected := [], zone := [] }
  let s2 := s1.report .discarded n 0 0
  { s2 with
    spurs := s2.spurs.map Spur.discarded
    bays := s2.bays.map Bay.atConfig
    credit := { s2.credit with mode := .sync, o := 0, G := s2.credit.s, unsynced := true, exitHold := false }
    node := { s2.node with state := .config, cause := .none } }

end Sys2Proof.Machine
end

