-- ==== Sys2Proof/Machine/Route.lean ====
section
/-! DEFINITION. Route decisions and bay places (chapter Route Decisions and Bay Places). -/

namespace Sys2Proof.Machine

/-- free_k of R72: capacity less occupied less reserved, and 0 where that would be negative. -/
def State.freeCount (s : State) (k : Ix) : Nat :=
  (s.params.bay.get k).cap - ((s.bays.get k).landing.length + (s.bays.get k).reserved)

/-- Bay k admits a tote of a class (R72). -/
def State.admitsClass (s : State) (k : Ix) (c : Cls) : Bool :=
  s.params.bayEnabled k && !(s.bays.get k).blocked &&
    match c with
    | .rush => decide (1 ≤ s.freeCount k)
    | .staged => decide ((s.params.bay.get k).rush + 1 ≤ s.freeCount k)

/-- The bays an entry permits (R68). -/
def RouteEntry.permits : RouteEntry → Ix → Bool
  | .pass, _ => false
  | .land p a, k => decide (k = p) || decide (a = some k)
  | .best m, k => m.get k

/-- Group affinity (R68): the lowest permitted bay that holds untaken members of the group and admits the class. -/
def State.affinity (s : State) (e : RouteEntry) (i : Ident) : Option Ix :=
  match i.group with
  | none => none
  | some g =>
    match s.groups.find? fun x => decide (x.id = g.id) with
    | none => none
    | some x => Ix.all.find? fun k => e.permits k && decide (0 < x.untaken.get k) && s.admitsClass k i.cls

/-- The better of two bays for BEST: the greater free count, the lower index where they share it (R70). -/
def State.betterBay (s : State) (best : Option Ix) (k : Ix) : Option Ix :=
  match best with
  | none => some k
  | some b => if s.freeCount b < s.freeCount k then some k else some b

/-- The entry's own choice of bay (R69, R70). -/
def State.entryChoice (s : State) (e : RouteEntry) (c : Cls) : Option Ix :=
  match e with
  | .pass => none
  | .land p a =>
    if s.admitsClass p c then some p
    else
      match a with
      | some k => if s.admitsClass k c then some k else none
      | none => none
  | .best m => (Ix.all.filter fun k => m.get k && s.admitsClass k c).foldl s.betterBay none

/-- The outcome of a route decision with the flags it sets (R66). -/
structure RouteOutcome where
  decision : Decision
  overflow : Bool
  noRoute : Bool
deriving DecidableEq, Repr

/-- The decision of R67 to R71, read from the active bank, the bays and the group table as they stand. -/
def State.routeChoice (s : State) (i : Ident) : RouteOutcome :=
  if i.dest = 0 then ⟨.pass, false, true⟩
  else
    match s.routes.active.getD i.dest.toNat .pass with
    | .pass => ⟨.pass, false, false⟩
    | e =>
      match s.affinity e i with
      | some k => ⟨.land k, false, false⟩
      | none =>
        match s.entryChoice e i.cls with
        | some k => ⟨.land k, false, false⟩
        | none => ⟨.pass, true, false⟩

/-- A LAND decision takes a reservation (R73). -/
def State.reserve (d : Decision) (s : State) : State :=
  match d with
  | .pass => s
  | .land k => s.modBay k fun b => { b with reserved := b.reserved + 1 }

/-- What a decision leaves behind besides its outcome: the reservation of R73, or the OVERFLOW_PASS report of R67
(detail 0, not for a stray) or R71 (detail dest, with its event). -/
def State.routeEffects (i : Ident) (stray : Bool) (o : RouteOutcome) (s : State) : State :=
  if o.noRoute then (if stray then s else s.report .overflowPass 0 i.tag i.order)
  else if o.overflow then
    (s.report .overflowPass i.dest.toNat i.tag i.order).offer .overflowPass (some i.cls) none
  else s.reserve o.decision

end Sys2Proof.Machine
end

