-- ==== Sys2Proof/Machine/Merge.lean ====
section
/-! DEFINITION. The Merge Unit: the merge window, the arbiter, grants and the placing of merged records (chapter
Merging from Pick Spurs). -/

namespace Sys2Proof.Machine

/-! ### The merge window (R107) -/

/-- L_n = P + ADJ_s − M_s. -/
def State.virtualLead (s : State) (i : Ix) : Pos :=
  posSub (posAdd s.pos.P (s.params.spur.get i).adj) (s.params.spur.get i).merge

/-- The trail of a zone record; of an ENTERING one it is P (R27, R107). -/
def Tote.trail (P : Pos) (t : Tote) : Pos :=
  match t.track with
  | .entering _ => P
  | .riding len _ => posAdd t.lead len
  | .armed len _ _ _ _ => posAdd t.lead len
  | .confirming len _ _ _ _ => posAdd t.lead len

/-- One zone record leaves the window clear: it is wholly ahead or wholly behind (R107). -/
def clearOf (P lead trail : Pos) (gap : Nat) (t : Tote) : Bool :=
  reached lead (posAdd (t.trail P) gap) || reached t.lead (posAdd trail gap)

/-- The merge window for a front record of the given size is clear at P (R107). -/
def State.windowClear (s : State) (i : Ix) (size : Size) : Bool :=
  let lead := s.virtualLead i
  s.zone.all (clearOf s.pos.P lead (posAdd lead (s.params.nominal size)) s.params.gap)

/-! ### Eligibility and the arbiter (R106, R108) -/

/-- The seven conditions of R106. -/
def State.eligible (s : State) (i : Ix) : Bool :=
  decide ((s.spurs.get i).st = .waiting) && decide (s.node.state = .run) && s.beltRun &&
    decide ((s.params.mergeMinSpeed : Int) ≤ s.pos.S) && !s.anyGranted &&
    decide (s.budget < s.params.zoneBudget) &&
    match (s.spurs.get i).list with
    | r :: _ => s.windowClear i r.ident.size
    | [] => false

/-- The class of a spur: that of its front record (R108). -/
def Spur.frontIs (c : Cls) (x : Spur) : Bool :=
  match x.list with
  | r :: _ => decide (r.ident.cls = c)
  | [] => false

/-- The candidates among the eligible spurs (R108). -/
def State.candidates (s : State) (el : List Ix) : List Ix :=
  let patient := el.filter fun i =>
    (s.spurs.get i).frontIs .staged && decide (s.params.patience ≤ (s.spurs.get i).passedOver)
  let rush := el.filter fun i => (s.spurs.get i).frontIs .rush
  if patient ≠ [] then patient else if rush ≠ [] then rush else el

/-- The first candidate after the last winner in the cyclic order (R108). -/
def State.winner (s : State) (el : List Ix) : Option Ix :=
  let w := s.lastWinner
  [w.succ, w.succ.succ, w].find? fun i => decide (i ∈ s.candidates el)

/-- The passed-over counts after an arbitration (R108). -/
def passOver (el : List Ix) (w i : Ix) (x : Spur) : Spur :=
  if i = w then { x with passedOver := 0 }
  else if i ∈ el then { x with passedOver := min Config.passedOverMax (x.passedOver + 1) }
  else x

/-- The grant to spur i (R109): virtual lead, route decision with its effects, GRANTED, both timers started. -/
def State.grantSpur (i : Ix) (s : State) : State :=
  match (s.spurs.get i).list with
  | [] => s
  | r :: _ =>
    let o := s.routeChoice r.ident
    let g : Grant := ⟨s.virtualLead i, o.decision, o.overflow, o.noRoute⟩
    (s.routeEffects r.ident r.stray o).modSpur i fun x =>
      { x with
        st := .granted g
        gateTimer := some (s.params.spur.get i).gateMs
        releaseTimer := some (s.params.spur.get i).releaseMs }

/-- The arbitration of an event (R108). -/
def State.arbitrate (s : State) : State :=
  let el := Ix.all.filter s.eligible
  match s.winner el with
  | none => s
  | some w =>
    ({ s with spurs := .ofFn fun i => passOver el w i (s.spurs.get i), lastWinner := w }).grantSpur w

/-- The tests that follow a change of their terms: the Merge Unit's first, then the Credit Unit's grants (R35). -/
def State.reTest (s : State) : State := s.arbitrate.grantCredits

/-! ### Placing a merged record (R30, R112) -/

/-- How many records stand at or before the last one whose lead `lead` has reached. -/
def placeOf (lead : Pos) (zone : List Tote) : Nat :=
  zone.length - (zone.reverse.takeWhile fun t => !reached lead t.lead).length

/-- A record placed by its lead: immediately behind the last record whose lead it has reached, or at the front
(R30). -/
def insertByLead (t : Tote) (zone : List Tote) : List Tote :=
  zone.take (placeOf t.lead zone) ++ t :: zone.drop (placeOf t.lead zone)

/-- The records ahead of a place all hold a claim, so a record put there becomes the claim candidate (R146). -/
def becomesCandidate (lead : Pos) (zone : List Tote) : Bool :=
  (zone.take (placeOf lead zone)).all fun t => t.claim.isSome

/-- The zone record made from a granted spur record (R112). -/
def State.mergedTote (s : State) (r : SpurRec) (g : Grant) : Tote where
  ident := r.ident
  flags := ⟨r.stray, false, false, true, g.overflow, false, g.noRoute⟩
  lead := g.lead
  track :=
    match g.decision with
    | .pass => .riding (s.params.nominal r.ident.size) none
    | .land k => s.armedTrack g.lead (s.params.nominal r.ident.size) k

end Sys2Proof.Machine
end

