-- ==== Sys2Proof/Machine/Tracker.lean ====
section
/-! DEFINITION. The Tracker: notices, missing totes, the entry eye, the exit; and the position change event in which
every block tests its targets (chapters Entry Tracking; Belt Position, Eyes and Timebase). -/

namespace Sys2Proof.Machine

/-! ### Notices (R39, R40) and missing totes (R41) -/

/-- Notice records removed as MISSING, front first; `detail` is 0 at the due position and 1 by a tag skip
(R41, R47). -/
def State.reportMissing (detail : Nat) (ns : List Notice) (s : State) : State :=
  ns.foldl (fun s n => (s.report .missing detail n.ident.tag n.ident.order).offer .missing (some n.ident.cls) none) s

/-- P has reached a notice record's due position (R41). -/
def State.overdue (s : State) (n : Notice) : Bool := reached s.pos.P (posAdd n.pa s.params.dueDist)

/-- The due test: the front record is removed while it is overdue, each new front being tested at once (R41). -/
def State.dropOverdue (s : State) : State :=
  State.reportMissing 0 (s.expected.takeWhile s.overdue) { s with expected := s.expected.dropWhile s.overdue }

/-- Why the Tracker refuses a notice, in the order of R39. -/
def State.noticeRefusal (s : State) (i : Ident) : Option Nat :=
  if s.node.state = .config then some 1
  else if Config.expectedCap ≤ s.expected.length then some 2
  else if s.tagAnnounced i.tag then some 3
  else none

/-- A notice is handed to the Tracker: refused with a report, or appended with Pa = P (R39 to R41). -/
def State.trackNotice (i : Ident) (s : State) : State :=
  match s.noticeRefusal i with
  | some d => s.report .noticeRefused d i.tag i.order
  | none => ({ s with expected := s.expected ++ [Notice.mk i s.pos.P] }).dropOverdue

/-! ### The tag port (R15 to R17) -/

/-- P has reached the pending tag's expiry position (R16). -/
def State.tagExpired (s : State) : Bool :=
  match s.tagPort.pending with
  | some t => reached s.pos.P (posAdd t.since s.params.tagHold)
  | none => false

/-- The expiry test of the pending tag: discarded as TAG_UNUSED (R16). -/
def State.expireTag (s : State) : State :=
  if s.tagExpired then ({ s with tagPort := { s.tagPort with pending := none } }).offer .tagUnused none none else s

/-- With TAG_ENABLE 1 an honoured leading edge takes the pending tag (R17). -/
def State.takeTag (s : State) : Option (BitVec 32) × State :=
  if s.params.tagEnable = 1 then
    (s.tagPort.pending.map PendingTag.tag, { s with tagPort := { s.tagPort with pending := none } })
  else (none, s)

/-! ### The exit (R55 to R59) -/

/-- A record's claim at the exit: its own, or the exit side's s with the clamp (R57). -/
def State.exitSequence (t : Tote) (s : State) : Byte × State :=
  match t.claim with
  | some q => (q, s)
  | none => (s.credit.s, { s with credit := s.credit.claim })

/-- How the record leaves: EXITED on a terminal node (R59), else a NOTICE on port D (R56, R57). -/
def State.announceExit (t : Tote) (s : State) : State :=
  if s.params.terminal = 1 then s.report .exited t.ident.origin t.ident.tag t.ident.order
  else
    let x := s.exitSequence t
    x.2.queueNotice (x.2.noticeFrame x.1 t.ident)

/-- A record still decided LAND misses its divert at the exit (R58). -/
def State.exitStillLand (t : Tote) (s : State) : State :=
  match t.decision with
  | .pass => s
  | .land k => s.missEffects .exit k t.ident

/-- The front record leaves by the exit (R56 to R59). A held candidate that leaves is no longer held (R148). -/
def State.exitFront (t : Tote) (rest : List Tote) (s : State) : State :=
  let s1 := { s with
    zone := rest
    credit := { s.credit with exitHold := s.credit.exitHold && t.claim.isSome } }
  (s1.exitStillLand t).announceExit t

/-- P has reached a record's exit position (R55). -/
def State.exitReached (s : State) (t : Tote) : Bool := reached s.pos.P (posAdd t.lead s.params.zoneExit)

/-- At most n exits, front first, each new front and candidate tested at once (R55, R148). -/
def State.exitLoop : Nat → State → State
  | 0, s => s
  | n + 1, s =>
    match s.zone with
    | [] => s
    | t :: rest => if s.exitReached t then State.exitLoop n (s.exitFront t rest).claims else s

/-- The hold point and exit tests of an event: claims, then exits (R146, R147, R55). -/
def State.exitTests (s : State) : State := State.exitLoop s.zone.length s.claims

/-! ### The position change event (R4) -/

/-- P has reached the entry eye's jam position in RUN (R54). -/
def State.jammed (s : State) : Bool :=
  decide (s.node.state = .run) && s.eyes.entry.blocked && s.jamAt.any (reached s.pos.P)

/-- The entry jam test (R54). -/
def State.jamTest (s : State) : State := if s.jammed then s.enterHalt .jam else s

/-- Every block tests its targets against the new P: the tag's expiry, the due position, the jam position before the
Divert Unit (R81), the divert tests before the exit (R58), hold points, exits, then merges and grants (R106, R35).
The order is that of log 7. -/
def State.positionChange (s : State) : State :=
  ((s.expireTag.dropOverdue.jamTest.divertTests State.testDivert).exitTests).reTest

/-- P advances by one count, and Hw with it from a value equal to Hw (R2, R5). -/
def PositionUnit.advance (p : PositionUnit) : PositionUnit :=
  { p with sub := 0, P := p.P + 1, Hw := if p.P = p.Hw then p.P + 1 else p.Hw }

/-- P steps back by one count; Hw is unchanged (R2, R5). -/
def PositionUnit.stepBack (p : PositionUnit) : PositionUnit := { p with sub := 0, P := p.P - 1 }

/-- A forward transition (R2). -/
def State.forwardTransition (s : State) : State :=
  if (s.params.encDiv : Int) ≤ s.pos.sub + 1 then ({ s with pos := s.pos.advance }).positionChange
  else { s with pos := { s.pos with sub := s.pos.sub + 1 } }

/-- A reverse transition (R2). -/
def State.reverseTransition (s : State) : State :=
  if s.pos.sub - 1 ≤ -(s.params.encDiv : Int) then ({ s with pos := s.pos.stepBack }).positionChange
  else { s with pos := { s.pos with sub := s.pos.sub - 1 } }

/-- An invalid transition is counted and offered; in RUN with the count above 4 it raises ENCODER (R6). -/
def State.invalidTransition (s : State) : State :=
  let n := min Config.invalidMax (s.pos.invalid + 1)
  let s1 := ({ s with pos := { s.pos with invalid := n } }).offer .encoderError none none
  if s.node.state = .run ∧ Config.invalidLimit < n then (s1.enterHalt .encoder).reTest else s1

/-- The place of a sample pair in the cycle 00, 10, 11, 01 (R1). -/
def cyclePlace : Bool × Bool → Nat
  | (false, false) => 0
  | (true, false) => 1
  | (true, true) => 2
  | (false, true) => 3

/-- How far a sample pair stands along the cycle from the previous one: 0 no transition, 1 forward, 2 invalid, 3
reverse (R1). -/
def transitionOf (prev now : Bool × Bool) : Nat := (cyclePlace now + 4 - cyclePlace prev) % 4

/-- A sample pair at the Position Unit (R1). The first sample after a reset makes no transition. -/
def State.encoderSample (now : Bool × Bool) (s : State) : State :=
  let s' := { s with pos := { s.pos with encPrev := some now } }
  match s.pos.encPrev with
  | none => s'
  | some prev =>
    match transitionOf prev now with
    | 1 => s'.forwardTransition
    | 3 => s'.reverseTransition
    | 2 => s'.invalidTransition
    | _ => s'

/-! ### The entry eye (R43 to R53) -/

/-- What an arriving tote is matched to (R46, R47): a notice record with the records skipped ahead of it and those
behind it, or nothing, as a stray with a tag. -/
inductive EntryMatch
  | found (skipped : List Notice) (n : Notice) (rest : List Notice) (noRead : Bool)
  | stray (tag : BitVec 32)
deriving DecidableEq, Repr

/-- The front record matched, or a stray with tag 0 on an empty list. -/
def matchFront (noRead : Bool) : List Notice → EntryMatch
  | [] => .stray 0
  | n :: rest => .found [] n rest noRead

/-- The match of an arriving tote by TAG_ENABLE and the tag taken (R46, R47). -/
def entryMatch (tagEnable : Nat) (tag : Option (BitVec 32)) (expected : List Notice) : EntryMatch :=
  if tagEnable = 1 then
    match tag with
    | none => matchFront true expected
    | some t =>
      match expected.dropWhile fun n => decide (n.ident.tag ≠ t) with
      | [] => .stray t
      | n :: rest => .found (expected.takeWhile fun n => decide (n.ident.tag ≠ t)) n rest false
  else matchFront false expected

/-- A new ENTERING record with its route decision at the back of the zone list, its lead being the stamp of the edge
(R43, R48, R66). -/
def State.appendEntering (lead : Pos) (i : Ident) (stray noRead : Bool) (s : State) : State :=
  let o := s.routeChoice i
  let t : Tote := ⟨i, ⟨stray, noRead, false, false, o.overflow, false, o.noRoute⟩, lead, .entering o.decision⟩
  let s1 := { s with zone := s.zone ++ [t] }
  (s1.routeEffects i stray o).offer .toteEntered (some i.cls) none

/-- An honoured leading edge that makes a zone record (R46 to R48): MISSING reports, STRAY report, then the route
decision's. -/
def State.arrive (stamp : Pos) (tag : Option (BitVec 32)) (s : State) : State :=
  match entryMatch s.params.tagEnable tag s.expected with
  | .found skipped n rest noRead =>
    ((({ s with expected := rest }).reportMissing 1 skipped).appendEntering stamp n.ident false noRead)
  | .stray t =>
    ((s.report .stray 0 t 0).offer .stray (some .staged) (some 3)).appendEntering stamp (strayIdent t s.node.address) true false

/-- The last record of the zone list is ENTERING (R44). -/
def State.lastEntering (s : State) : Bool := (s.zone.getLast?).any Tote.isEntering

/-- The Tracker honours an entry-eye edge: its high-water flag is set, and the node is in RUN or HALT (R43). -/
def State.honours (e : Edge) (s : State) : Bool := e.highWater && s.tracking

/-- A blocked edge of the entry eye at the Tracker (R43 to R48). After the record is made the new front's due
position, the candidate and the front's exit position are tested (R41, R146, R55), then merges and grants. DESIGN CHOICE:
these tests read P as it stands when the Tracker acts (R4), not the stamp at which R49 fixes P for the event; the two
differ only where P has moved since the acceptance (log 31). -/
def State.entryLeading (e : Edge) (s : State) : State :=
  if !s.honours e then s
  else if s.lastEntering then s
  else if Config.zoneCap ≤ s.zone.length then
    let x := s.takeTag
    x.2.report .untracked 0 (x.1.getD 0) 0
  else
    let x := s.takeTag
    ((x.2.arrive e.stamp x.1).dropOverdue.exitTests).reTest

/-- The measured length of R50: d(L, stamp), from 1 to 65,535. -/
def measuredLength (lead stamp : Pos) : Nat := (clampInt 1 Config.lengthMax (dist lead stamp)).toNat

/-- The mismatch test of R51: none within LEN_TOL, else the report's detail. -/
def State.mismatch (s : State) (size : Size) (len : Nat) : Option Nat :=
  let nominal := s.params.nominal size
  if len + s.params.lenTol < nominal then some 1
  else if nominal + s.params.lenTol < len then some 2
  else none

/-- The last record's trailing edge with its stamp (R50 to R52). A record being armed is tested against P as it stands
(R4; DESIGN CHOICE, log 31). -/
def State.closeEntering (stamp : Pos) (init : List Tote) (t : Tote) (d : Decision) (s : State) : State :=
  let len := measuredLength t.lead stamp
  let m := s.mismatch t.ident.size len
  let t1 := { t with flags := { t.flags with lengthMismatch := t.flags.lengthMismatch || m.isSome } }
  let s1 := match m with
    | some n => s.report .lengthMismatch n t.ident.tag t.ident.order
    | none => s
  match d with
  | .pass => { s1 with zone := init ++ [{ t1 with track := .riding len none }] }
  | .land k =>
    let a := s1.testArmed { t1 with track := s1.armedTrack t.lead len k }
    { a.2 with zone := init ++ [a.1] }

/-- A clear edge of the entry eye at the Tracker (R43, R50 to R53). The claims and the merge tests that follow read P as
it stands (R4; DESIGN CHOICE, log 31). -/
def State.entryTrailing (e : Edge) (s : State) : State :=
  if !s.honours e then s
  else
    match s.zone.getLast? with
    | some t =>
      match t.track with
      | .entering d => ((s.closeEntering e.stamp s.zone.dropLast t d).claims).reTest
      | _ => s
    | none => s

end Sys2Proof.Machine
end

