-- ==== Sys2Proof/Machine/Requests.lean ====
section
/-! DEFINITION. The Management Unit's requests and responses (chapter Management Requests, Reports and Counters). Each
handler takes a payload and answers the state it leaves and the payload of its response, status byte first. -/

namespace Sys2Proof.Machine

/-- What carries out a request: from its payload and the state to the state and the response payload. -/
abbrev Handler := List Byte → State → State × List Byte

/-! ### Responses (R174, R175) -/

/-- DONE with the kind's fields (R174). -/
def doneWith (fields : List Byte) : List Byte := 0x00 :: fields

/-- A refusal: its status and two detail bytes (R175). -/
def refusal (code : Nat) (d1 d2 : Byte) : List Byte := [byte code, d1, d2]

def unknownKindReply (kind : Byte) : List Byte := refusal 0x01 kind 0xFF

def badLength (p : List Byte) : List Byte := refusal 0x02 (byte p.length) 0xFF

def wrongState (s : State) : List Byte := refusal 0x03 (byte s.node.state.code) 0xFF

def badParameter (what : Nat) : List Byte := refusal 0x04 (byte what) 0xFF

/-- BAD_SETUP: the constraint, then the spur index in bits 4 to 7 and the bay index in bits 0 to 3, each Fh where
none is named. -/
def badSetup (f : SetupFault) : List Byte :=
  refusal 0x05 (byte f.constraint) (byte (16 * (f.spur.elim 15 Ix.toNat) + f.bay.elim 15 Ix.toNat))

def listFull (spur : Ix) : List Byte := refusal 0x06 (byte spur.toNat) 0xFF

def duplicateTag (spur : Ix) : List Byte := refusal 0x07 (byte spur.toNat) 0xFF

def causePresent (n : Nat) : List Byte := refusal 0x08 (byte n) 0xFF

def eStopActiveReply : List Byte := refusal 0x09 0xFF 0xFF

def noSuchItem (index : Byte) : List Byte := refusal 0x0A index 0xFF

/-! ### INQUIRE (R174) -/

/-- The 18 bytes after the status. -/
def State.inquiry (s : State) : List Byte :=
  be16 Config.partCode ++
  [byte Config.revision, byte s.node.address, byte s.node.state.code, byte s.node.cause.code,
    byte (if s.node.estopActive then 1 else 0), s.routes.generation,
    byte s.expected.length, byte s.zone.length] ++
  Ix.all.map (fun i => byte (s.spurs.get i).list.length) ++
  Ix.all.map (fun k => byte (s.bays.get k).landing.length) ++
  [byte s.groups.length, byte s.reports.length]

def reqInquire : Handler := fun p s =>
  if p = [] then (s, doneWith s.inquiry) else (s, badLength p)

/-! ### Parameters (R177, R178) -/

/-- Why a parameter pair is refused, in the order of R177. -/
def State.pairRefusal (s : State) (x : Byte × Nat) : Option (List Byte) :=
  match ParamId.ofByte x.1 with
  | none => some (badParameter x.1.toNat)
  | some p =>
    if !p.valueOk x.2 then some (badParameter x.1.toNat)
    else if p.configClass && decide (s.node.state ≠ .config) then some (refusal 0x03 (byte s.node.state.code) x.1)
    else none

/-- One pair is written, with the immediate effects of R177: ENC_DIV sets the sub-count to 0 (R2), TAG_ENABLE 0
discards the pending tag (R15), TAG_HOLD re-tests its expiry (R16). -/
def State.writeParam (p : ParamId) (v : Nat) (s : State) : State :=
  let s1 := { s with params := s.params.put p v }
  match p with
  | .encDiv => { s1 with pos := { s1.pos with sub := 0 } }
  | .tagEnable => if v = 0 then { s1 with tagPort := { s1.tagPort with pending := none } } else s1
  | .tagHold => s1.expireTag
  | _ => s1

def State.writePair (s : State) (x : Byte × Nat) : State :=
  match ParamId.ofByte x.1 with
  | some p => s.writeParam p x.2
  | none => s

def reqSetParameters : Handler := fun p s =>
  if p.length % 3 = 0 ∧ 3 ≤ p.length ∧ p.length ≤ 60 then
    match (triplesOf p).findSome? s.pairRefusal with
    | some r => (s, r)
    | none => ((triplesOf p).foldl State.writePair s, doneWith [])
  else (s, badLength p)

/-- The parameter pair returned for an id (R178). -/
def State.readPair (s : State) (id : Byte) : Option (List Byte) :=
  (ParamId.ofByte id).map fun p => id :: be16 (s.params.get p)

def reqReadParameters : Handler := fun p s =>
  if 1 ≤ p.length ∧ p.length ≤ 19 then
    match p.find? fun id => (ParamId.ofByte id).isNone with
    | some id => (s, badParameter id.toNat)
    | none => (s, doneWith (p.flatMap fun id => (s.readPair id).getD []))
  else (s, badLength p)

/-! ### Routes (R63 to R65) -/

def reqRouteWrite : Handler := fun p s =>
  match p with
  | first :: count :: es =>
    if es.length ≠ 2 * count.toNat ∨ count.toNat = 0 ∨ Config.routeRun < count.toNat then (s, badLength p)
    else if Config.routeEntries < first.toNat + count.toNat then (s, noSuchItem first)
    else
      match decodeRoutes first.toNat (pairsOf es) with
      | .error n => (s, badParameter n)
      | .ok rs =>
        ({ s with routes := { s.routes with standby := replaceFrom first.toNat rs s.routes.standby } },
          doneWith [s.routes.generation])
  | _ => (s, badLength p)

/-- ROUTE COMMIT (R64). -/
def State.commitRoutes (s : State) : State :=
  { s with routes := { s.routes with active := s.routes.standby, generation := s.routes.generation + 1 } }

def reqRouteCommit : Handler := fun p s =>
  if p = [] then (s.commitRoutes, doneWith [s.commitRoutes.routes.generation]) else (s, badLength p)

def reqRouteRead : Handler := fun p s =>
  match p with
  | [bank, first, count] =>
    if 2 ≤ bank.toNat then (s, badParameter 0)
    else if Config.routeEntries ≤ first.toNat then (s, noSuchItem first)
    else if count.toNat = 0 ∨ Config.routeRun < count.toNat then (s, badParameter 2)
    else
      let es := (((if bank = 0 then s.routes.active else s.routes.standby).take Config.routeEntries).drop first.toNat).take
        count.toNat
      (s, doneWith ([s.routes.generation, byte es.length] ++ es.flatMap encodeRoute))
  | _ => (s, badLength p)

/-! ### Spurs (R100, R115) -/

/-- Why a SPUR NOTICE for an existing spur is refused, in the order of R100. -/
def State.spurRefusal (s : State) (i : Ix) (d : Ident) : Option (List Byte) :=
  if s.node.state = .config ∨ s.params.spurEnabled i = false then some (wrongState s)
  else if Config.spurCap ≤ (s.spurs.get i).list.length then some (listFull i)
  else if s.tagAnnounced d.tag then some (duplicateTag i)
  else none

def reqSpurNotice : Handler := fun p s =>
  match decodeSpurNotice s.node.address p with
  | none => (s, badLength p)
  | some (sp, d) =>
    match Ix.ofNat? sp.toNat with
    | none => (s, noSuchItem sp)
    | some i =>
      match s.spurRefusal i d with
      | some r => (s, r)
      | none =>
        let s' := s.modSpur i fun x => { x with list := x.list ++ [⟨d, .announced, false⟩] }
        (s', doneWith [byte (s'.spurs.get i).list.length])

/-- The spur-state codes of R174. -/
def SpurState.code : SpurState → Nat
  | .empty => 0
  | .waiting => 1
  | .granted _ => 2
  | .blocked => 3

/-- The front record of spur list i leaves as SPUR_LOST and the spur becomes EMPTY (R105, R115). -/
def State.loseFront (i : Ix) (detail : Nat) (s : State) : State :=
  let s' := s.modSpur i fun x => { x with st := .empty, list := x.list.tail }
  match (s.spurs.get i).list with
  | r :: _ => s'.report .spurLost detail r.ident.tag r.ident.order
  | [] => s'

/-- The restore of a BLOCKED spur by its gate eye (R115). -/
def State.restoreSpur (i : Ix) (s : State) : State :=
  if (s.eyes.gate.get i).blocked then (s.modSpur i fun x => { x with st := .waiting }).reTest
  else s.loseFront i (3 + i.toNat)

def reqSpurRestore : Handler := fun p s =>
  match p with
  | [sp] =>
    match Ix.ofNat? sp.toNat with
    | none => (s, noSuchItem sp)
    | some i =>
      if (s.spurs.get i).st = .blocked then
        (s.restoreSpur i, doneWith [byte ((s.restoreSpur i).spurs.get i).st.code])
      else (s, wrongState s)
  | _ => (s, badLength p)

/-! ### BAY CLEAR (R97) -/

/-- How many records BAY CLEAR removes: n, or all of them for n = 0 or where there are fewer. -/
def clearCount (n held : Nat) : Nat := if n = 0 then held else min n held

def reqBayClear : Handler := fun p s =>
  match p with
  | [b, n] =>
    match Ix.ofNat? b.toNat with
    | none => (s, noSuchItem b)
    | some k =>
      if 8 < n.toNat then (s, badParameter 1)
      else
        let m := clearCount n.toNat (s.bays.get k).landing.length
        (s.takeMany k (3 + k.toNat) m, doneWith [byte m])
  | _ => (s, badLength p)

/-! ### LIST READ (R36, R174) -/

/-- The list a list id names, as it is read (R174). -/
def State.listNamed (s : State) (id : Nat) : Option (List ListRecord) :=
  match id with
  | 0 => some (s.expected.map Notice.listRecord)
  | 1 => some (s.zone.map Tote.listRecord)
  | 2 => some (s.spurs.get .i0).listRecords
  | 3 => some (s.spurs.get .i1).listRecords
  | 4 => some (s.spurs.get .i2).listRecords
  | 5 => some ((s.bays.get .i0).landing.map LandingRec.listRecord)
  | 6 => some ((s.bays.get .i1).landing.map LandingRec.listRecord)
  | 7 => some ((s.bays.get .i2).landing.map LandingRec.listRecord)
  | _ => none

def reqListRead : Handler := fun p s =>
  match p with
  | [id, start] =>
    match s.listNamed id.toNat with
    | none => (s, badParameter 0)
    | some l =>
      if l.length ≤ start.toNat then (s, [0x0A, byte l.length, 0])
      else
        let rs := (l.drop start.toNat).take Config.listReadMax
        (s, doneWith ([byte l.length, byte rs.length] ++ rs.flatMap ListRecord.bytes ++ rs.map ListRecord.claim))
  | _ => (s, badLength p)

/-! ### Event counters (R182, R183) -/

def reqCounterSetup : Handler := fun p s =>
  match p with
  | [n, e, cm, qm] =>
    if 3 < n.toNat then (s, noSuchItem n)
    else
      match EventCode.ofCode e.toNat with
      | none => (s, badParameter 1)
      | some ev =>
        if 4 ≤ cm.toNat then (s, badParameter 2)
        else if 16 ≤ qm.toNat then (s, badParameter 3)
        else ({ s with counters := s.counters.set n.toNat ⟨ev, cm, qm, 0⟩ }, doneWith [])
  | _ => (s, badLength p)

/-- The seven bytes of a counter in COUNTER READ (R174). -/
def Counter.bytes (c : Counter) : List Byte := [byte c.event.code, c.classMask, c.qualMask] ++ be32 c.value

def reqCounterRead : Handler := fun p s =>
  if p = [] then (s, doneWith (s.counters.flatMap Counter.bytes)) else (s, badLength p)

/-- The counters from number `n` on, with the values of those in the mask at 0 (R183). -/
def clearCounters (mask : Byte) : Nat → List Counter → List Counter
  | _, [] => []
  | n, c :: cs => (if mask.getLsbD n then { c with value := 0 } else c) :: clearCounters mask (n + 1) cs

def reqCounterClear : Handler := fun p s =>
  match p with
  | [mask] =>
    if 16 ≤ mask.toNat then (s, badParameter 0)
    else ({ s with counters := clearCounters mask 0 s.counters }, doneWith [])
  | _ => (s, badLength p)

/-! ### Node state (R154 to R157, R161) -/

/-- The effects of a START that passes its tests (R154): RUN, arbitration set anew, SYNC with o = 0, then grants. -/
def State.startNode (s : State) : State :=
  ({ s with
    node := { s.node with state := .run, cause := .none }
    spurs := s.spurs.map fun (x : Spur) => { x with passedOver := 0 }
    lastWinner := .i2
    credit := { s.credit with mode := .sync, o := 0 } }).reTest

def reqStart : Handler := fun p s =>
  if p ≠ [] then (s, badLength p)
  else if s.node.state ≠ .config then (s, wrongState s)
  else if s.node.estopActive then (s, eStopActiveReply)
  else
    match s.params.setupFault with
    | some f => (s, badSetup f)
    | none => (s.startNode, doneWith [byte s.startNode.node.state.code])

def reqHalt : Handler := fun p s =>
  if p ≠ [] then (s, badLength p)
  else
    match s.node.state with
    | .config => (s, wrongState s)
    | .halt => (s, doneWith [byte NodeState.halt.code])
    | .run => ((s.enterHalt .request).reTest, doneWith [byte NodeState.halt.code])

/-- The conditions present at a RESUME: 1 e-stop active, 2 entry eye blocked, 3 both (R156). -/
def State.presentCauses (s : State) : Nat :=
  (if s.node.estopActive then 1 else 0) + (if s.eyes.entry.blocked then 2 else 0)

/-- A RESUME that finds no cause present (R156). -/
def State.resumeNode (s : State) : State :=
  (({ s with node := { s.node with state := .run, cause := .none } }).report .resumed 0 0 0).reTest

def reqResume : Handler := fun p s =>
  if p ≠ [] then (s, badLength p)
  else if s.node.state ≠ .halt then (s, wrongState s)
  else if s.presentCauses ≠ 0 then (s, causePresent s.presentCauses)
  else (s.resumeNode, doneWith [byte NodeState.run.code])

def reqConfig : Handler := fun p s =>
  if p ≠ [] then (s, badLength p)
  else if s.node.state = .config then (s, doneWith [byte NodeState.config.code])
  else (s.enterConfig, doneWith [byte NodeState.config.code])

def reqNodeReset : Handler := fun p s =>
  if p ≠ [] then (s, badLength p) else (s, doneWith [byte s.node.state.code])

def reqUnknownKind (kind : Byte) : Handler := fun _ s => (s, unknownKindReply kind)

/-- The handler of a KIND (R174); every other kind is unknown (R173). -/
def handlerOf (kind : Byte) : Handler :=
  match kind.toNat with
  | 0x10 => reqInquire
  | 0x11 => reqSetParameters
  | 0x12 => reqReadParameters
  | 0x13 => reqRouteWrite
  | 0x14 => reqRouteCommit
  | 0x15 => reqRouteRead
  | 0x16 => reqSpurNotice
  | 0x17 => reqSpurRestore
  | 0x18 => reqBayClear
  | 0x19 => reqListRead
  | 0x1A => reqCounterSetup
  | 0x1B => reqCounterRead
  | 0x1C => reqCounterClear
  | 0x1D => reqStart
  | 0x1E => reqHalt
  | 0x1F => reqResume
  | 0x20 => reqConfig
  | 0x21 => reqNodeReset
  | _ => reqUnknownKind kind

/-! ### Delivery of requests (R166, R168, R173) -/

/-- The response to a request joins the arrival port's queue (R168, R170); the DONE response of a NODE RESET brings
the reset when it has been sent. -/
def State.respond (kind : Byte) (q : Request) (payload : List Byte) (s : State) : State :=
  let f := s.ownFrame (q.src.toNat % 64) (kind + 0x80) q.tag payload
  s.modPort q.port fun x =>
    { x with responses := x.responses ++ [⟨f, decide (kind = 0x21) && decide (payload.head? = some 0)⟩] }

/-- A request addressed to this node: dropped where 4 responses wait (R168), else carried out and answered. -/
def State.serve (h : Handler) (kind : Byte) (q : Request) (s : State) : State :=
  if Config.responseCap ≤ (s.lines.get q.port).responses.length then s.offerDrop q.port
  else (h q.payload s).1.respond kind q (h q.payload s).2

/-- The kinds carried out on the broadcast address (R173). -/
def broadcastKind (kind : Byte) : Bool := decide (kind.toNat ∈ [0x1E, 0x1F, 0x14])

/-- The frame of a broadcast request, as it is passed on (R166). -/
def broadcastFrame (kind : Byte) (q : Request) : Frame :=
  ⟨byte (64 * q.spare.toNat + 63), q.src, kind, q.tag, q.payload⟩

/-- A broadcast request: dropped on port D; on port U carried out for its kinds, never answered, and passed on to
port D (R166, R173). -/
def State.broadcastRequest (h : Handler) (kind : Byte) (q : Request) (s : State) : State :=
  match q.port with
  | .D => s.offerDrop .D
  | .U => ((if broadcastKind kind then (h q.payload s).1 else s)).forward .D (broadcastFrame kind q)

/-- A request frame arrives whole on its port (R163, R166). -/
def State.requestArrives (h : Handler) (kind : Byte) (q : Request) (s : State) : State :=
  let s := s.frameArrives q.port
  if Config.lenMax < q.payload.length then s.frameTooLong q.port
  else if q.broadcast then s.broadcastRequest h kind q
  else s.serve h kind q

end Sys2Proof.Machine
end

