-- ==== Sys2Proof/Machine/Frames.lean ====
section
/-! DEFINITION. Delivery of received frames (R166): notices to the admission side, credits to the exit side, requests,
forwarding and drops; and the characters at a receiver. -/

namespace Sys2Proof.Machine

/-- A NOTICE taken by the Credit Unit: its own work, then the Tracker's unless stale, then merges and grants
(R140). -/
def State.takeNotice (q : Byte) (i : Ident) (s : State) : State :=
  let x := s.admission q i
  if x.2 then (x.1.trackNotice i).reTest else x.1

/-- A NOTICE frame at next-hop on port U; a length that does not fit its group bit is dropped (R166). -/
def State.noticeFrameIn (payload : List Byte) (s : State) : State :=
  match decodeNotice payload with
  | some (q, i) => s.takeNotice q i
  | none => s.offerDrop .U

/-- A frame of KIND 01h at next-hop arrives whole on port U (R163, R166). -/
def State.noticeArrives (payload : List Byte) (s : State) : State :=
  if Config.lenMax < payload.length then s.frameTooLong .U else s.noticeFrameIn payload

/-- A CREDIT frame with the SYNC flag (R143), then the held candidate and what follows (R148). -/
def State.takeSync (value : Byte) (s : State) : State :=
  ({ s with credit := s.credit.syncFrame value }).claims.reTest

/-- CREDIT_RESYNC, reported when the view exceeded 16 with unsynced clear (R144). -/
def State.reportResync (g r : Byte) (s : State) : State :=
  if s.credit.mustResync g && !s.credit.unsynced then
    s.report .creditResync (r - s.credit.s).toNat 0 0
  else s

/-- A CREDIT frame with the LOCKED flag (R144). -/
def State.takeLocked (g r : Byte) (s : State) : State :=
  let s' := s.reportResync g r
  ({ s' with credit := s'.credit.lockedFrame g r }).claims.reTest

/-- A CREDIT frame at next-hop on port D, handed on with LEN 3 and flags 01h or 02h, else dropped (R166). -/
def State.creditFrameIn (payload : List Byte) (s : State) : State :=
  match payload with
  | [f, a, b] =>
    match f.toNat with
    | 1 => s.takeSync a
    | 2 => s.takeLocked a b
    | _ => s.offerDrop .D
  | _ => s.offerDrop .D

/-- The request in a frame that reaches the Management Unit. -/
def requestOf (f : Frame) (p : Port) (broadcast : Bool) : Request :=
  ⟨p, broadcast, BitVec.ofNat 2 (f.dest.toNat / 64), f.src, f.tag, f.payload⟩

/-- The kinds that a frame at this node's address may have to reach the Management Unit (R166). -/
def managementKind (kind : Byte) : Bool := decide (kind.toNat < 0x80) && !decide (kind.toNat ∈ [1, 2, 3])

/-- A frame whose check holds is delivered by its DEST address and port: the table of R166. -/
def State.deliver (p : Port) (f : Frame) (s : State) : State :=
  let a := f.dest.toNat % 64
  if a = s.node.address then
    if managementKind f.kind then s.serve (handlerOf f.kind) f.kind (requestOf f p false) else s.offerDrop p
  else if a = 0 then
    match p with
    | .U => s.offerDrop .U
    | .D => s.forward .U f
  else if a = 62 then
    match p with
    | .U => if f.kind = 0x01 then s.noticeFrameIn f.payload else s.offerDrop .U
    | .D => if f.kind = 0x02 then s.creditFrameIn f.payload else s.offerDrop .D
  else if a = 63 then s.broadcastRequest (handlerOf f.kind) f.kind (requestOf f p true)
  else s.forward p.other f

/-- A whole frame arrives on a port (R163, R166). -/
def State.wholeFrame (p : Port) (f : Frame) (s : State) : State :=
  let s := s.frameArrives p
  if Config.lenMax < f.payload.length then s.frameTooLong p else s.deliver p f

/-- One character arrives on a port's receive line (R163). A frame that completes is an event of its own. -/
def State.lineChar (p : Port) (s : State) (c : LineChar) : State :=
  let x := rxChar (s.lines.get p).rx c
  let s' := s.modPort p fun y => { y with rx := x.1 }
  match x.2 with
  | .quiet => s'
  | .abandoned => s'.offerCheckError (portQual p)
  | .complete f => (s'.deliver p f).finish

end Sys2Proof.Machine
end

