-- ==== Sys2Proof/Machine/ResetCommands.lean ====
section
/-! DEFINITION. The resets (R161, R165, R170). -/

namespace Sys2Proof.Machine

/-- How a command ends. -/
abbrev Result := Host.Outcome State Fault Refusal

/-- POWER_ON: every block at its after-reset values, the straps read (R161). -/
def execPowerOn (s : State) : Result := .next s.resetPart

/-- RESET_PIN: as at power-on (R161). -/
def execResetPin (s : State) : Result := .next s.resetPart

/-- The port is sending the DONE response of a NODE RESET. -/
def State.resetOutstanding (p : Port) (s : State) : Bool := (s.lines.get p).tx.any OutFrame.thenReset

/-- NODE_RESET_TAKES_EFFECT: the last character of the NODE RESET response, which the port was sending, has gone (R170).
While none is being sent there is no reset to follow (log 13). -/
def execNodeResetTakesEffect (p : Port) (s : State) : Result :=
  .next (if s.resetOutstanding p then s.resetPart else s)

end Sys2Proof.Machine
end

