-- ==== Sys2Proof/Machine/BeltCommands.lean ====
section
/-! DEFINITION. The belt: encoder samples and speed samples (R1 to R9, R80), and the emergency stop (R153). -/

namespace Sys2Proof.Machine

/-- ENCODER_TRANSITION: a sample pair (ENCA, ENCB) at the Position Unit (R1 to R6). -/
def execEncoderTransition (a b : Bool) (s : State) : Result := .next (s.encoderSample (a, b)).finish

/-- comp_k from a speed sample, a latency and the window's length (R9). -/
def leadCompensation (S : Int) (latency W : Nat) : Nat :=
  if S ≤ 0 then 0 else (min Config.compMax ((S * latency + W / 2) / W)).toNat

/-- The stall accumulator after a window, and whether it raises STALL (R8). -/
def PositionUnit.stallAfter (p : PositionUnit) (S : Int) (stallMs : Nat) : Nat × Bool :=
  if p.windowDriven && decide (S = 0) then
    if stallMs ≤ p.stall + p.windowLen then (0, true) else (p.stall + p.windowLen, false)
  else (0, false)

/-- The Position Unit's part of a speed sample (R7): S, the compensations, the stall accumulator, the invalid count,
and the next window, of the length SPEED_WIN has now. -/
def PositionUnit.sample (p : PositionUnit) (q : Params) : PositionUnit :=
  let S := clampInt (-Config.speedMax) Config.speedMax (dist p.windowStart p.P)
  { p with
    S := S
    comp := .ofFn fun k => leadCompensation S (q.bay.get k).latency p.windowLen
    stall := (p.stallAfter S q.stallMs).1
    invalid := 0
    windowStart := p.P
    windowLen := q.speedWin
    windowTimer := some q.speedWin
    windowDriven := true }

/-- The window just ended raises STALL (R8). -/
def State.stalled (s : State) : Bool :=
  (s.pos.stallAfter (clampInt (-Config.speedMax) Config.speedMax (dist s.pos.windowStart s.pos.P)) s.params.stallMs).2

/-- A speed sample (R7, R8, R80): the Position Unit's work, STALL where it is raised, the fire targets set anew and
tested, then claims, merges and grants. -/
def State.takeSample (s : State) : State :=
  let s1 := { s with pos := s.pos.sample s.params }
  let s2 := if s.stalled then s1.enterHalt .stall else s1
  let s3 := { s2 with zone := s2.zone.map s2.retarget }
  ((s3.divertTests State.testArmed).claims).reTest

/-- SPEED_SAMPLE: the speed window expires (R7). -/
def execSpeedSample (s : State) : Result := .next s.takeSample.finish

/-- E_STOP_ASSERTION: the filtered emergency-stop input becomes ACTIVE; in RUN the node halts with cause E_STOP
(R153). An input already ACTIVE has no assertion. -/
def execEStopAssertion (s : State) : Result :=
  .next
    (if s.node.estopActive then s
    else
      let s1 := { s with node := { s.node with estopActive := true, estopCount := 0 } }
      match s.node.state with
      | .run => ((s1.enterHalt .eStop).reTest).finish
      | _ => s1.finish)

/-- E_STOP_RELEASE: the filtered emergency-stop input becomes INACTIVE; node state and cause stay (R153). -/
def execEStopRelease (s : State) : Result :=
  .next
    (if s.node.estopActive then ({ s with node := { s.node with estopActive := false, estopCount := 0 } }).finish
    else s)

end Sys2Proof.Machine
end

