-- ==== Sys2Proof/Machine/EyeCommands.lean ====
section
/-! DEFINITION. The edges of the ten eyes at their owners (R11, R43 to R53, R87 to R96, R102 to R112). Each command is
the owner's act on an edge event: the oldest of that eye that waits, or one the Eye Unit accepts now (log 4). The owner
reads the stamp and the high-water flag of the event, not P and Hw as they stand when it acts. -/

namespace Sys2Proof.Machine

/-- The Eye Unit accepts the change that a command names, where no edge event of the eye waits and the filtered state
differs: a command from outside stands for the sample that accepts it as well (log 4). -/
def State.acceptNamed (i : EyeId) (b : Bool) (s : State) : State :=
  if (s.eyes.get i).waiting.isEmpty && decide ((s.eyes.get i).blocked ≠ b) then s.acceptEdge i b else s

/-- An edge of an eye at its owner, who acts on what the event carries; no edge where the eye's next event is not of
that direction (R11). -/
def State.edge (i : EyeId) (b : Bool) (owner : Edge → State → State) (s : State) : State :=
  match (s.acceptNamed i b).takeEdge i b with
  | some x => (owner x.1 x.2).finish
  | none => s

/-- ENTRY_EYE_BLOCKED: the leading edge is taken (R43 to R48). -/
def execEntryEyeBlocked (s : State) : Result := .next (s.edge .entry true State.entryLeading)

/-- ENTRY_EYE_CLEAR: the trailing edge is taken (R43, R50 to R53). -/
def execEntryEyeClear (s : State) : Result := .next (s.edge .entry false State.entryTrailing)

/-! ### Gate eyes -/

/-- The Merge Unit acts on the spur's gate-eye edges (R102). -/
def State.gateActs (i : Ix) (s : State) : Bool := s.tracking && s.params.spurEnabled i

/-- A tote at the gate of an EMPTY spur: its front record becomes AT_GATE (R103), or it is a spur stray (R104). -/
def State.toteAtGate (i : Ix) (s : State) : State :=
  match (s.spurs.get i).list with
  | r :: rest => s.modSpur i fun x => { x with st := .waiting, list := { r with sub := .atGate } :: rest }
  | [] =>
    ((s.modSpur i fun x =>
        { x with st := .waiting, list := [⟨strayIdent 0 s.node.address, .atGate, true⟩] }).report
      .spurStray i.toNat 0 0).offer .stray (some .staged) (some i.toNat)

/-- A gate-eye blocked edge at the Merge Unit (R102 to R104). -/
def State.gateBlocked (i : Ix) (s : State) : State :=
  if s.gateActs i && decide ((s.spurs.get i).st = .empty) then (s.toteAtGate i).reTest else s

/-- GATE_EYE_BLOCKED (R103, R104). -/
def execGateEyeBlocked (i : Ix) (s : State) : Result := .next (s.edge (.gate i) true fun _ => State.gateBlocked i)

/-- The late point of a grant: L_n + M_s + LEN_LARGE + GAP (R111). -/
def State.latePoint (s : State) (i : Ix) (g : Grant) : Pos :=
  posAdd (posAdd (posAdd g.lead (s.params.spur.get i).merge) s.params.lenLarge) s.params.gap

/-- A grant ends with the tote gone from the spur: the front record leaves, both timers are stopped and the spur is
EMPTY (R111, R112). -/
def Spur.released (x : Spur) : Spur :=
  { x with st := .empty, list := x.list.tail, gateTimer := none, releaseTimer := none }

/-- The front record is discarded (R111). -/
def State.discardGranted (i : Ix) (g : Grant) (r : SpurRec) (why : ReportKind) (detail : Nat) (s : State) : State :=
  ((s.releaseDecision g.decision).modSpur i Spur.released).report why detail r.ident.tag r.ident.order

/-- The granted record is inserted into the zone list, armed and tested where it is to land, and the exit side tests
the new candidate and front (R112, R146, R55). These tests read P as it stands, not the edge's stamp (R4; DESIGN
CHOICE, log 31). -/
def State.insertGranted (i : Ix) (g : Grant) (r : SpurRec) (s : State) : State :=
  let s1 := (s.modSpur i Spur.released).offer .mergeDone (some r.ident.cls) (some i.toNat)
  let a := s1.testArmed (s1.mergedTote r g)
  ({ a.2 with
    zone := insertByLead a.1 s1.zone
    credit := { a.2.credit with exitHold := a.2.credit.exitHold && !becomesCandidate g.lead s1.zone } }).exitTests

/-- The tote of a GRANTED spur has cleared its gate; the late test reads the edge's stamp (R111, R112, R116). -/
def State.gateReleased (i : Ix) (stamp : Pos) (g : Grant) (s : State) : State :=
  match (s.spurs.get i).list with
  | [] => s
  | r :: _ =>
    if reached stamp (s.latePoint i g) then s.discardGranted i g r .spurLate i.toNat
    else if Config.zoneCap ≤ s.zone.length then s.discardGranted i g r .untracked (1 + i.toNat)
    else s.insertGranted i g r

/-- A gate-eye clear edge at the Merge Unit by the spur's state (R102, R105, R111, R112). The late test reads the
stamp, the merge tests that follow P as it stands (DESIGN CHOICE, log 31). -/
def State.gateCleared (i : Ix) (e : Edge) (s : State) : State :=
  if s.gateActs i then
    match (s.spurs.get i).st with
    | .waiting => s.loseFront i i.toNat
    | .granted g => (s.gateReleased i e.stamp g).reTest
    | _ => s
  else s

/-- GATE_EYE_CLEAR (R105, R111, R112). -/
def execGateEyeClear (i : Ix) (s : State) : Result := .next (s.edge (.gate i) false (State.gateCleared i))

/-! ### Confirm eyes -/

/-- A confirmed landing of a zone record at bay k, `rest` being the zone list without it (R87, R88). -/
def State.landTote (k : Ix) (t : Tote) (rest : List Tote) (s : State) : State :=
  let r : LandingRec := ⟨t.ident.tag, t.ident.order, t.ident.cls, t.ident.group, false⟩
  let full := decide (Config.landingCap ≤ (s.bays.get k).landing.length)
  let s1 := ({ s with zone := rest }).release k
  let s2 := if full then s1 else s1.modBay k fun b => { b with landing := b.landing ++ [r] }
  let s3 := if s.params.reportLandings = 1 then
      s2.report .landed (if full then 3 + k.toNat else k.toNat) r.tag r.order
    else s2
  let s4 := s3.offer .divertDone (some r.cls) (some k.toNat)
  if full then s4 else s4.assemblyLanding k r

/-- The record of an UNEXPECTED landing (R32, R89). -/
def unexpectedRec : LandingRec := ⟨0, 0, .staged, none, true⟩

/-- An UNEXPECTED landing at bay k (R89). -/
def State.landUnexpected (k : Ix) (s : State) : State :=
  if (s.bays.get k).landing.length < Config.landingCap then
    (s.modBay k fun b => { b with landing := b.landing ++ [unexpectedRec] }).report .unexpectedLanding k.toNat 0 0
  else s.report .unexpectedLanding (3 + k.toNat) 0 0

/-- The milliseconds since the tick at which the eye was blocked, 0 where it no longer is (R12). -/
def State.blockedFor (i : EyeId) (s : State) : Nat :=
  match (s.eyes.get i).since with
  | some x => (s.time.ticks - x.2).toNat
  | none => 0

/-- The Bay Unit starts the chute jam timer from the confirm eye's blocked-since time (R12, R91). -/
def State.startChuteJam (k : Ix) (s : State) : State :=
  s.modBay k fun b => { b with chuteJam := some (s.params.chuteJamMs - s.blockedFor (.confirm k)) }

/-- A confirm-eye blocked edge: the Divert Unit's landing (R87, R89) and the Bay Unit's timer (R91), which are
independent; after a landing the new front and candidate are tested, then merges and grants. -/
def State.confirmBlocked (k : Ix) (s : State) : State :=
  match takeConfirming k s.zone with
  | some (t, rest) => (((s.startChuteJam k).landTote k t rest).exitTests).reTest
  | none => (s.startChuteJam k).landUnexpected k

/-- CONFIRM_EYE_BLOCKED (R87 to R91). -/
def execConfirmEyeBlocked (k : Ix) (s : State) : Result := .next (s.edge (.confirm k) true fun _ => State.confirmBlocked k)

/-- A confirm-eye clear edge: the chute jam timer is stopped and a BLOCKED bay is cleared (R91, R92). -/
def State.confirmCleared (k : Ix) (s : State) : State :=
  let s1 := s.modBay k fun b => { b with chuteJam := none, blocked := false }
  if (s.bays.get k).blocked then s1.report .bayUnblocked k.toNat 0 0 else s1

/-- CONFIRM_EYE_CLEAR (R92). -/
def execConfirmEyeClear (k : Ix) (s : State) : Result := .next (s.edge (.confirm k) false fun _ => State.confirmCleared k)

/-! ### Front eyes -/

/-- A front-eye clear edge: the front record is TAKEN (R94), or TAKEN_UNKNOWN is offered (R96). -/
def State.frontCleared (k : Ix) (s : State) : State :=
  match (s.bays.get k).landing with
  | [] => s.offer .takenUnknown none (some k.toNat)
  | _ :: _ => s.takeFront k k.toNat

/-- FRONT_EYE_CLEAR (R94, R96). -/
def execFrontEyeClear (k : Ix) (s : State) : Result := .next (s.edge (.front k) false fun _ => State.frontCleared k)

/-- FRONT_EYE_BLOCKED: the next tote is at the counter; no record changes (R94). -/
def execFrontEyeBlocked (k : Ix) (s : State) : Result := .next (s.edge (.front k) true fun _ => id)

end Sys2Proof.Machine
end

