-- ==== Sys2Proof/Machine/FrameCommands.lean ====
section
/-! DEFINITION. The frames between neighbours, the frames that pass through, the frames lost, and the end of a
transmission (chapters Admission Credits and Zone Exit; Line Ports and Frames). -/

namespace Sys2Proof.Machine

/-- NOTICE: a frame of KIND 01h at next-hop on port U (R138 to R140, R166); one with LEN above 60 is abandoned at its
LEN character (R163). -/
def execNotice (payload : List Byte) (s : State) : Result :=
  .next ((s.frameArrives .U).noticeArrives payload).finish

/-- CREDIT_SYNC: a CREDIT frame with the SYNC flag at next-hop on port D (R143). Its third payload byte is ignored. -/
def execCreditSync (value _third : Byte) (s : State) : Result :=
  .next ((s.frameArrives .D).takeSync value).finish

/-- CREDIT_LOCKED: a CREDIT frame with the LOCKED flag at next-hop on port D (R144). -/
def execCreditLocked (g r : Byte) (s : State) : Result :=
  .next ((s.frameArrives .D).takeLocked g r).finish

/-- FRAME_FORWARD: a checked frame for another address goes to the opposite port's forward queue (R166, R167). -/
def execFrameForward (p : Port) (f : Frame) (s : State) : Result := .next (s.wholeFrame p f).finish

/-- FRAME_DROP: a checked frame that no block may take is dropped (R166). -/
def execFrameDrop (p : Port) (f : Frame) (s : State) : Result := .next (s.wholeFrame p f).finish

/-- FRAME_ABANDON: characters arrive that cut a frame short or fail its check (R163). -/
def execFrameAbandon (p : Port) (cs : List LineChar) (s : State) : Result :=
  .next (cs.foldl (State.lineChar p) s).finish

/-- FRAME_SENT: the last character of the frame a port is sending has gone; the arbiter chooses the next (R169), or
the reset follows the NODE RESET response (R170). An idle transmitter has nothing to finish. -/
def execFrameSent (p : Port) (s : State) : Result :=
  .next
    (match (s.lines.get p).tx with
    | none => s
    | some f => if f.thenReset then s.resetPart else (s.modPort p fun x => { x with tx := none }).finish)

end Sys2Proof.Machine
end

