-- ==== Sys2Proof/Machine/RequestCommands.lean ====
section
/-! DEFINITION. The management requests as commands: each arrives as a frame of its KIND (R173, R174). -/

namespace Sys2Proof.Machine

/-- INQUIRE: identity, states, generation and list lengths (R174). It changes nothing but the queue of its response. -/
def execInquire (q : Request) (s : State) : Result := .next (s.requestArrives reqInquire 0x10 q).finish

/-- SET PARAMETERS (R177). -/
def execSetParameters (q : Request) (s : State) : Result := .next (s.requestArrives reqSetParameters 0x11 q).finish

/-- READ PARAMETERS (R178). -/
def execReadParameters (q : Request) (s : State) : Result := .next (s.requestArrives reqReadParameters 0x12 q).finish

/-- ROUTE WRITE (R63). -/
def execRouteWrite (q : Request) (s : State) : Result := .next (s.requestArrives reqRouteWrite 0x13 q).finish

/-- ROUTE COMMIT, also when broadcast (R64). -/
def execRouteCommit (q : Request) (s : State) : Result := .next (s.requestArrives reqRouteCommit 0x14 q).finish

/-- ROUTE READ (R65). -/
def execRouteRead (q : Request) (s : State) : Result := .next (s.requestArrives reqRouteRead 0x15 q).finish

/-- SPUR NOTICE (R100). -/
def execSpurNotice (q : Request) (s : State) : Result := .next (s.requestArrives reqSpurNotice 0x16 q).finish

/-- SPUR RESTORE (R115). -/
def execSpurRestore (q : Request) (s : State) : Result := .next (s.requestArrives reqSpurRestore 0x17 q).finish

/-- BAY CLEAR (R97). -/
def execBayClear (q : Request) (s : State) : Result := .next (s.requestArrives reqBayClear 0x18 q).finish

/-- LIST READ (R36). -/
def execListRead (q : Request) (s : State) : Result := .next (s.requestArrives reqListRead 0x19 q).finish

/-- COUNTER SETUP (R182). -/
def execCounterSetup (q : Request) (s : State) : Result := .next (s.requestArrives reqCounterSetup 0x1A q).finish

/-- COUNTER READ (R183). -/
def execCounterRead (q : Request) (s : State) : Result := .next (s.requestArrives reqCounterRead 0x1B q).finish

/-- COUNTER CLEAR (R183). -/
def execCounterClear (q : Request) (s : State) : Result := .next (s.requestArrives reqCounterClear 0x1C q).finish

/-- START (R154). -/
def execStart (q : Request) (s : State) : Result := .next (s.requestArrives reqStart 0x1D q).finish

/-- HALT, also when broadcast (R155). -/
def execHalt (q : Request) (s : State) : Result := .next (s.requestArrives reqHalt 0x1E q).finish

/-- RESUME, also when broadcast (R156). -/
def execResume (q : Request) (s : State) : Result := .next (s.requestArrives reqResume 0x1F q).finish

/-- CONFIG (R157). -/
def execConfig (q : Request) (s : State) : Result := .next (s.requestArrives reqConfig 0x20 q).finish

/-- NODE RESET: DONE is queued, and the reset follows once it has been sent (R161, R170). -/
def execNodeReset (q : Request) (s : State) : Result := .next (s.requestArrives reqNodeReset 0x21 q).finish

/-- UNKNOWN_KIND_REQUEST: a request frame of a KIND that is not one of the request kinds (R173); at this node's
address a KIND that R166 keeps from the Management Unit is dropped. -/
def execUnknownKindRequest (kind : Byte) (q : Request) (s : State) : Result :=
  .next
    (if q.broadcast || managementKind kind || decide (Config.lenMax < q.payload.length) then
      (s.requestArrives (handlerOf kind) kind q).finish
    else ((s.frameArrives q.port).offerDrop q.port).finish)

end Sys2Proof.Machine
end

