-- ==== Sys2Proof/Machine/TagCommands.lean ====
section
/-! DEFINITION. The Tag Port: its receiver and what a read does (R14, R15). -/

namespace Sys2Proof.Machine

/-- A valid read by TAG_ENABLE and the pending tag (R15). -/
def State.validRead (tag : BitVec 32) (s : State) : State :=
  if s.params.tagEnable = 1 then
    let s' := { s with tagPort := { s.tagPort with pending := some ⟨tag, s.pos.P⟩ } }
    if s.tagPort.pending.isSome then s'.offer .tagOverrun none none else s'
  else s

/-- A bad read is discarded and offered as CHECK_ERROR on the tag input (R14). -/
def State.badRead (s : State) : State := s.offerCheckError 2

/-- Six characters judged: four tag bytes and their exclusive-or (R14). -/
def State.judgeRead (got : List Byte) (s : State) : State :=
  match got with
  | [a, b, c, d, k] =>
    if k = a ^^^ b ^^^ c ^^^ d ∧ beNat [a, b, c, d] ≠ 0 then s.validRead (BitVec.ofNat 32 (beNat [a, b, c, d]))
    else s.badRead
  | _ => s.badRead

def State.putTagRx (rx : TagRx) (s : State) : State := { s with tagPort := { s.tagPort with rx := rx } }

/-- A character in AWAIT_START (R14). -/
def State.tagCharAwait (c : TagChar) (s : State) : State :=
  if !c.framingError && decide (c.data = 0x02) then s.putTagRx (.inRead []) else s

/-- A character at the Tag Port's receiver (R14). -/
def State.tagChar (s : State) (c : TagChar) : State :=
  match s.tagPort.rx with
  | .awaitStart => s.tagCharAwait c
  | .inRead got =>
    if c.gap then ((s.putTagRx .awaitStart).badRead).tagCharAwait c
    else if c.framingError then (s.putTagRx .awaitStart).badRead
    else if got.length < 4 then s.putTagRx (.inRead (got ++ [c.data]))
    else (s.putTagRx .awaitStart).judgeRead (got ++ [c.data])

/-- TAG_READ: the characters of a valid read arrive on TAGIN (R14, R15). -/
def execTagRead (cs : List TagChar) (s : State) : Result := .next (cs.foldl State.tagChar s).finish

/-- BAD_TAG_READ: characters of a read that is bad (R14). -/
def execBadTagRead (cs : List TagChar) (s : State) : Result := .next (cs.foldl State.tagChar s).finish

end Sys2Proof.Machine
end

