-- ==== Sys2Proof/Machine/TimerCommands.lean ====
section
/-! DEFINITION. Timer expiries and the millisecond tick (R18, R19). A one-shot or lamp step timer expires once its Nth tick has
been taken; an event that restarted or stopped it first leaves its expiry command nothing to do (R18, R133, log 5). -/

namespace Sys2Proof.Machine

/-- An expiry of a timer: its owner acts where the timer is due, and nothing happens where it is idle or has ticks
left. -/
def State.onExpiry (t : Timer) (act : State → State) (s : State) : Result :=
  .next (if t.due then (act s).finish else s)

/-- PADDLE_PULSE_EXPIRY: the paddle output goes off (R83). -/
def execPaddlePulseExpiry (k : Ix) (s : State) : Result :=
  s.onExpiry (s.bays.get k).paddle (State.modBay k fun b => { b with paddle := none })

/-- GATE_PULSE_EXPIRY: the gate output goes off and the spur stays GRANTED (R110). -/
def execGatePulseExpiry (i : Ix) (s : State) : Result :=
  s.onExpiry (s.spurs.get i).gateTimer (State.modSpur i fun x => { x with gateTimer := none })

/-- RELEASE_TIMER_EXPIRY: a GRANTED spur becomes BLOCKED with SPUR_STUCK (R113), and another may be granted. -/
def execReleaseTimerExpiry (i : Ix) (s : State) : Result :=
  s.onExpiry (s.spurs.get i).releaseTimer fun x =>
    ((x.stickSpur i i.toNat).modSpur i fun y => { y with releaseTimer := none }).reTest

/-- CHIME_EXPIRY: the chime output goes off (R132). -/
def execChimeExpiry (k : Ix) (s : State) : Result :=
  s.onExpiry (s.bays.get k).chime (State.modBay k fun b => { b with chime := none })

/-- The bay becomes BLOCKED if it was not (R91). -/
def State.chuteJammed (k : Ix) (s : State) : State :=
  let s1 := s.modBay k fun b => { b with chuteJam := none, blocked := true }
  if (s.bays.get k).blocked then s1 else s1.report .bayBlocked k.toNat 0 0

/-- CHUTE_JAM_EXPIRY: the confirm eye has stayed blocked for CHUTE_JAM_MS (R91). -/
def execChuteJamExpiry (k : Ix) (s : State) : Result := s.onExpiry (s.bays.get k).chuteJam (State.chuteJammed k)

/-- LAMP_STEP_EXPIRY: the lamp is held at level 1 for a RUSH order or dims by one level (R131). -/
def execLampStepExpiry (k : Ix) (s : State) : Result :=
  s.onExpiry (s.bays.get k).lampTimer (State.modBay k (Bay.lampStep s.params))

/-- CREDIT_REFRESH: a CREDIT frame is requested and the next 50 ms begin (R137, R19). -/
def execCreditRefresh (s : State) : Result :=
  .next ({ s with
    credit := { s.credit.request 1 with refresh := some Config.creditRefreshMs } }).finish

/-- How much a millisecond tick adds to a counter (R181). -/
def State.tickAmount (s : State) (c : Counter) : Nat :=
  match c.event with
  | .exitHoldMs => if s.credit.exitHold then 1 else 0
  | .mergeWaitMs =>
    if Ix.all.any (fun i => c.takesQual i.toNat && decide ((s.spurs.get i).st = .waiting) &&
        ((s.spurs.get i).list.head?.any fun r => c.takesClass r.ident.cls)) then 1 else 0
  | .zoneOccupancy => (s.zone.filter fun t => c.takesClass t.ident.cls).length
  | .landingOccupancy =>
    (Ix.all.map fun k =>
      if c.takesQual k.toNat then ((s.bays.get k).landing.filter fun r => c.takesClass r.cls).length else 0).sum
  | _ => 0

/-- The one-shot timers and the lamp step timer of a bay at a tick. -/
def Bay.tick (b : Bay) : Bay :=
  { b with
    chuteJam := Timer.tick b.chuteJam, paddle := Timer.tick b.paddle, lampTimer := Timer.tick b.lampTimer,
    chime := Timer.tick b.chime }

def Spur.tick (x : Spur) : Spur :=
  { x with gateTimer := Timer.tick x.gateTimer, releaseTimer := Timer.tick x.releaseTimer }

/-- The speed window timer at a tick: the first tick after a reset starts it (R7). -/
def State.windowTick (s : State) : PositionUnit :=
  match s.pos.windowTimer with
  | none =>
    { s.pos with
      windowTimer := some s.params.speedWin, windowLen := s.params.speedWin, windowDriven := s.beltRun }
  | some n => { s.pos with windowTimer := some (n - 1) }

/-- The credit refresh timer at a tick: the first tick after a reset starts it (R137). -/
def refreshTick : Timer → Timer
  | none => some Config.creditRefreshMs
  | some n => some (n - 1)

/-- The lamp outputs at a tick: every fifth begins a period, in which each shows the level of its beginning (R132). -/
def State.lampTick (s : State) : LampDriver :=
  if s.lamps.phase + 1 < Config.lampPeriodMs then { s.lamps with phase := s.lamps.phase + 1 }
  else ⟨0, s.bays.map Bay.lamp⟩

/-- A millisecond tick: the tick count, every timer, the lamp period and the millisecond accumulations (R18, R19, R132,
R181). -/
def State.tick (s : State) : State :=
  { s with
    time := { s.time with ticks := s.time.ticks + 1 }
    pos := s.windowTick
    spurs := s.spurs.map Spur.tick
    bays := s.bays.map Bay.tick
    lamps := s.lampTick
    credit := { s.credit with refresh := refreshTick s.credit.refresh }
    counters := s.counters.map fun c => c.add (s.tickAmount c) }

/-- MILLISECOND_TICK (R18, R19, R181). -/
def execMillisecondTick (s : State) : Result := .next s.tick.finish

end Sys2Proof.Machine
end

