-- ==== Sys2Proof/Machine/Dispatch.lean ====
section
/-! DEFINITION. One arm for each command: the call of its meaning. -/

namespace Sys2Proof.Machine

def exec (i : Instr) (s : State) : Host.Outcome State Fault Refusal :=
  match i with
  | .powerOn => Sys2Proof.Machine.execPowerOn s
  | .resetPin => Sys2Proof.Machine.execResetPin s
  | .inquire q => Sys2Proof.Machine.execInquire q s
  | .setParameters q => Sys2Proof.Machine.execSetParameters q s
  | .readParameters q => Sys2Proof.Machine.execReadParameters q s
  | .routeWrite q => Sys2Proof.Machine.execRouteWrite q s
  | .routeCommit q => Sys2Proof.Machine.execRouteCommit q s
  | .routeRead q => Sys2Proof.Machine.execRouteRead q s
  | .spurNotice q => Sys2Proof.Machine.execSpurNotice q s
  | .spurRestore q => Sys2Proof.Machine.execSpurRestore q s
  | .bayClear q => Sys2Proof.Machine.execBayClear q s
  | .listRead q => Sys2Proof.Machine.execListRead q s
  | .counterSetup q => Sys2Proof.Machine.execCounterSetup q s
  | .counterRead q => Sys2Proof.Machine.execCounterRead q s
  | .counterClear q => Sys2Proof.Machine.execCounterClear q s
  | .start q => Sys2Proof.Machine.execStart q s
  | .halt q => Sys2Proof.Machine.execHalt q s
  | .resume q => Sys2Proof.Machine.execResume q s
  | .config q => Sys2Proof.Machine.execConfig q s
  | .nodeReset q => Sys2Proof.Machine.execNodeReset q s
  | .nodeResetTakesEffect p => Sys2Proof.Machine.execNodeResetTakesEffect p s
  | .unknownKindRequest kind q => Sys2Proof.Machine.execUnknownKindRequest kind q s
  | .notice payload => Sys2Proof.Machine.execNotice payload s
  | .creditSync value third => Sys2Proof.Machine.execCreditSync value third s
  | .creditLocked g r => Sys2Proof.Machine.execCreditLocked g r s
  | .frameForward p f => Sys2Proof.Machine.execFrameForward p f s
  | .frameDrop p f => Sys2Proof.Machine.execFrameDrop p f s
  | .frameAbandon p cs => Sys2Proof.Machine.execFrameAbandon p cs s
  | .tagRead cs => Sys2Proof.Machine.execTagRead cs s
  | .badTagRead cs => Sys2Proof.Machine.execBadTagRead cs s
  | .encoderTransition a b => Sys2Proof.Machine.execEncoderTransition a b s
  | .entryEyeBlocked => Sys2Proof.Machine.execEntryEyeBlocked s
  | .entryEyeClear => Sys2Proof.Machine.execEntryEyeClear s
  | .gateEyeBlocked j => Sys2Proof.Machine.execGateEyeBlocked j s
  | .gateEyeClear j => Sys2Proof.Machine.execGateEyeClear j s
  | .confirmEyeBlocked k => Sys2Proof.Machine.execConfirmEyeBlocked k s
  | .confirmEyeClear k => Sys2Proof.Machine.execConfirmEyeClear k s
  | .frontEyeClear k => Sys2Proof.Machine.execFrontEyeClear k s
  | .frontEyeBlocked k => Sys2Proof.Machine.execFrontEyeBlocked k s
  | .eStopAssertion => Sys2Proof.Machine.execEStopAssertion s
  | .eStopRelease => Sys2Proof.Machine.execEStopRelease s
  | .speedSample => Sys2Proof.Machine.execSpeedSample s
  | .paddlePulseExpiry k => Sys2Proof.Machine.execPaddlePulseExpiry k s
  | .gatePulseExpiry j => Sys2Proof.Machine.execGatePulseExpiry j s
  | .releaseTimerExpiry j => Sys2Proof.Machine.execReleaseTimerExpiry j s
  | .chimeExpiry k => Sys2Proof.Machine.execChimeExpiry k s
  | .chuteJamExpiry k => Sys2Proof.Machine.execChuteJamExpiry k s
  | .lampStepExpiry k => Sys2Proof.Machine.execLampStepExpiry k s
  | .creditRefresh => Sys2Proof.Machine.execCreditRefresh s
  | .millisecondTick => Sys2Proof.Machine.execMillisecondTick s
  | .frameSent p => Sys2Proof.Machine.execFrameSent p s

end Sys2Proof.Machine
end

