-- ==== Sys2Proof/Machine/Sampling.lean ====
section
/-! DEFINITION. The part's own clock: what one 0.25 ms sample period brings (R10, R18, R19, R153). A step takes it on an
empty queue (log 2); the edges are accepted and stamped here, and they and the expiries found join the queue and are taken as commands. -/

namespace Sys2Proof.Machine

/-- The filter setting N of an eye (R10). -/
def Params.filterOf (p : Params) : EyeId → Nat
  | .entry => p.entryFilter
  | .gate _ => p.gateFilter
  | .confirm _ => p.bayFilter
  | .front _ => p.bayFilter

/-- The level at an eye's input, true where the beam is blocked. -/
def Inputs.eye (i : Inputs) : EyeId → Bool
  | .entry => i.entry
  | .gate s => i.gate.get s
  | .confirm k => i.confirm.get k
  | .front k => i.front.get k

/-- The agreement count after a sample that agrees or differs, and whether the change is accepted (R10, R153). -/
def filterSample (differs : Bool) (count n : Nat) : Nat × Bool :=
  if differs then (if n ≤ count + 1 then (0, true) else (count + 1, false)) else (0, false)

/-- The command that hands an eye's edge event of direction `b` to its owner (R11). -/
def edgeCommand (i : EyeId) (b : Bool) : Instr :=
  match i, b with
  | .entry, true => .entryEyeBlocked
  | .entry, false => .entryEyeClear
  | .gate s, true => .gateEyeBlocked s
  | .gate s, false => .gateEyeClear s
  | .confirm k, true => .confirmEyeBlocked k
  | .confirm k, false => .confirmEyeClear k
  | .front k, true => .frontEyeBlocked k
  | .front k, false => .frontEyeClear k

/-- EYE0 to EYE9 in their order. -/
def eyeOrder : List EyeId :=
  .entry :: Ix.all.map .gate ++ Ix.all.map .confirm ++ Ix.all.map .front

/-- One eye sampled (R10, R11): its agreement count, or the change accepted and the command queued that hands the edge
event to its owner. -/
def State.sampleEye (i : EyeId) (s : State) : State :=
  let b := s.inputs.eye i
  let x := filterSample (decide (b ≠ (s.eyes.get i).blocked)) (s.eyes.get i).count (s.params.filterOf i)
  if x.2 then
    let s1 := s.acceptEdge i b
    { s1 with pending := s1.pending ++ [edgeCommand i b] }
  else { s with eyes := s.eyes.put i { s.eyes.get i with count := x.1 } }

/-- The ten eyes sampled in their order. -/
def State.sampleEyes (s : State) : State := eyeOrder.foldl (fun s i => s.sampleEye i) s

/-- The emergency-stop input sampled (R153). -/
def State.sampleEstop (s : State) : Nat × List Instr :=
  let x := filterSample (decide (s.inputs.estop ≠ s.node.estopActive)) s.node.estopCount Config.estopFilter
  (x.1, if x.2 then [if s.inputs.estop then .eStopAssertion else .eStopRelease] else [])

/-- The commands of the timers that the coming tick expires, in the order of log 6. -/
def State.expiries (s : State) : List Instr :=
  let when (t : Timer) (c : Instr) : List Instr := if Timer.dueNext t then [c] else []
  Ix.all.flatMap (fun k => when (s.bays.get k).paddle (.paddlePulseExpiry k)) ++
  Ix.all.flatMap (fun i => when (s.spurs.get i).gateTimer (.gatePulseExpiry i)) ++
  Ix.all.flatMap (fun i => when (s.spurs.get i).releaseTimer (.releaseTimerExpiry i)) ++
  Ix.all.flatMap (fun k => when (s.bays.get k).chime (.chimeExpiry k)) ++
  Ix.all.flatMap (fun k => when (s.bays.get k).chuteJam (.chuteJamExpiry k)) ++
  Ix.all.flatMap (fun k => when (s.bays.get k).lampTimer (.lampStepExpiry k)) ++
  when s.pos.windowTimer .speedSample ++
  when s.credit.refresh .creditRefresh

/-- The commands of a tick: the tick, then the expiries it brings (R18, R19). -/
def State.tickCommands (s : State) : List Instr :=
  if s.time.quarter + 1 < Config.samplesPerTick then [] else .millisecondTick :: s.expiries

/-- One sample period: the phase of the tick, the commands of the tick and of the e-stop input put in the queue, then
the eyes, whose edge events are accepted here and wait for the commands queued for them (log 6). -/
def State.samplePeriod (s : State) : State :=
  State.sampleEyes { s with
    time := { s.time with quarter := if s.time.quarter + 1 < Config.samplesPerTick then s.time.quarter + 1 else 0 }
    node := { s.node with estopCount := s.sampleEstop.1 }
    pending := s.pending ++ (s.tickCommands ++ s.sampleEstop.2) }

end Sys2Proof.Machine
end

