-- ==== Sys2Proof/Machine/Outputs.lean ====
section
/-! DEFINITION. The output pins as functions of the state (R83, R110, R132, R148, R158, R162, R171). -/

namespace Sys2Proof.Machine

/-- PAD_k is on while the paddle pulse timer is active (R83). -/
def State.padOn (s : State) (k : Ix) : Bool := (s.bays.get k).paddle.isSome

/-- GATE_s is on while the spur is GRANTED and its gate pulse timer is active (R110). -/
def State.gateOn (s : State) (i : Ix) : Bool :=
  (s.spurs.get i).st.isGranted && (s.spurs.get i).gateTimer.isSome

/-- CHIME_k is on while the chime timer is active (R132). -/
def State.chimeOn (s : State) (k : Ix) : Bool := (s.bays.get k).chime.isSome

/-- The duty of a lamp output in eighths of its 5 ms period: (9 − n) / 8 at level n from 1 to 8, off at 0 (R132). -/
def lampEighths (level : Nat) : Nat := if level = 0 then 0 else 9 - level

/-- Samples of 0.25 ms since the beginning of the lamp period in progress. -/
def State.lampSample (s : State) : Nat := Config.samplesPerTick * s.lamps.phase + s.time.quarter

/-- LAMP_k is on for the first (9 − n) × 0.625 ms of each period, n being the level it shows in that period (R132). -/
def State.lampOn (s : State) (k : Ix) : Bool := decide (2 * s.lampSample < 5 * lampEighths (s.lamps.shown.get k))

/-- What a transmit line carries: it is held high by an idle transmitter, else the bits of the frame being sent, first
sent first (R162, R171). -/
inductive LineLevel
  | heldHigh
  | sending (bits : List Bool)
deriving DecidableEq, Repr

/-- LUT or LDT. -/
def State.lineLevel (s : State) (p : Port) : LineLevel :=
  match (s.lines.get p).tx with
  | none => .heldHigh
  | some f => .sending (f.frame.chars.flatMap LineChar.bits)

/-- All outputs together. RUN is belt-run (R148); `duty` is the lamps' on time in eighths of the period in progress. -/
structure Outputs where
  run : Bool
  pad : Tri Bool
  gate : Tri Bool
  chime : Tri Bool
  lamp : Tri Bool
  duty : Tri Nat
  lut : LineLevel
  ldt : LineLevel
deriving DecidableEq, Repr

def State.outputs (s : State) : Outputs where
  run := s.beltRun
  pad := .ofFn s.padOn
  gate := .ofFn s.gateOn
  chime := .ofFn s.chimeOn
  lamp := .ofFn s.lampOn
  duty := s.lamps.shown.map lampEighths
  lut := s.lineLevel .U
  ldt := s.lineLevel .D

end Sys2Proof.Machine
end

