-- ==== Sys2Proof/Safety.lean ====
section
/-! DEFINITION. What a sound state of the part is: the laws of the chapters that every command and every sample
period keep. A safe run is one whose every state meets them; the statements of Certificates are written in these
terms. -/

namespace Sys2Proof.Safety

open Sys2Proof.Machine

/-- The two line ports. -/
def ports : List Port := [.U, .D]

/-! ### Capacities (R29 to R33, R137, R167 to R169, R179) -/

/-- A route bank has 128 entries, entry 0 being PASS (R61, R62). -/
def bankFits (l : List RouteEntry) : Prop := l.length = 128 ∧ l.head? = some .pass

/-- No list or table of records is longer than its capacity, and both route banks are whole. -/
def ListsFit (s : State) : Prop :=
  s.expected.length ≤ 16 ∧ s.zone.length ≤ 24 ∧ (∀ i ∈ Ix.all, (s.spurs.get i).list.length ≤ 6) ∧
    (∀ k ∈ Ix.all, (s.bays.get k).landing.length ≤ 8) ∧ s.groups.length ≤ 8 ∧ bankFits s.routes.active ∧
    bankFits s.routes.standby

/-- No queue of frames or of report entries, and no count of them, is beyond its capacity. -/
def QueuesFit (s : State) : Prop :=
  (∀ p ∈ ports, (s.lines.get p).fwd.length ≤ 8 ∧ (s.lines.get p).responses.length ≤ 4 ∧ (s.lines.get p).passed ≤ 4) ∧
    s.lines.notices.length ≤ 8 ∧ s.credit.waiting ≤ 16 ∧ s.reports.length ≤ 16 ∧ s.dropped ≤ 255

/-- A frame's LEN is at most 60 (R163, R172). -/
def frameFits (f : Frame) : Prop := f.payload.length ≤ 60

/-- Every frame held or being sent has a LEN the bus carries, and there are four event counters, none beyond its
ceiling (R172, R181). -/
def FramesFit (s : State) : Prop :=
  (∀ p ∈ ports, (∀ f ∈ (s.lines.get p).fwd, frameFits f) ∧ (∀ f ∈ (s.lines.get p).responses, frameFits f.frame) ∧
      (∀ f ∈ (s.lines.get p).tx, frameFits f.frame)) ∧
    (∀ f ∈ s.lines.notices, frameFits f) ∧ s.counters.length = 4 ∧ (∀ c ∈ s.counters, c.value ≤ 4294967295)

/-! ### Parameters, position and eyes (R2, R6, R7, R9, R12, R176) -/

/-- Every parameter lies in its range. -/
def ParamsSound (s : State) : Prop := s.params.inRange = true

/-- The sub-count lies strictly between −ENC_DIV and ENC_DIV, and S, the compensations and the invalid count within
their clamps. -/
def PositionSound (s : State) : Prop :=
  -(s.params.encDiv : Int) < s.pos.sub ∧ s.pos.sub < s.params.encDiv ∧ -32767 ≤ s.pos.S ∧ s.pos.S ≤ 32767 ∧
    (∀ k ∈ Ix.all, s.pos.comp.get k ≤ 1023) ∧ s.pos.invalid ≤ 255

/-- At most one edge event of an eye waits: its direction is the filtered state's, a clear edge and no other carries a
blocked-since position, and the command that hands it to its owner is in the queue (R11, R12). -/
def edgesSound (s : State) (i : EyeId) : Prop :=
  (s.eyes.get i).waiting.length ≤ 1 ∧
    ∀ e ∈ (s.eyes.get i).waiting,
      e.blocked = (s.eyes.get i).blocked ∧ e.blockedSince.isSome = !e.blocked ∧ edgeCommand i e.blocked ∈ s.pending

/-- An eye is BLOCKED exactly while it holds its blocked-since values, no agreement count reaches the largest
filter setting, and its edge events are sound; the emergency-stop input's count stays below 4 (R153); the jam position
stands exactly while the entry eye is BLOCKED (R54). -/
def EyesSound (s : State) : Prop :=
  (∀ i ∈ eyeOrder,
    (s.eyes.get i).blocked = (s.eyes.get i).since.isSome ∧ (s.eyes.get i).count < 15 ∧ edgesSound s i) ∧
    s.node.estopCount < 4 ∧ s.jamAt.isSome = s.eyes.entry.blocked

/-! ### Node states and outputs (R152, R157, R158) -/

/-- The halt cause is NONE exactly outside HALT; outside RUN no paddle pulse runs and no spur is GRANTED. -/
def NodeSound (s : State) : Prop :=
  (s.node.cause = .none ↔ s.node.state ≠ .halt) ∧
    (s.node.state ≠ .run →
      (∀ k ∈ Ix.all, (s.bays.get k).paddle = none) ∧ (∀ i ∈ Ix.all, (s.spurs.get i).st.isGranted = false))

/-- In CONFIG the zone side is empty: no announced tote, no record, no reservation, no held exit. -/
def ConfigQuiet (s : State) : Prop :=
  s.node.state = .config →
    s.expected = [] ∧ s.zone = [] ∧ s.credit.exitHold = false ∧
      (∀ i ∈ Ix.all, (s.spurs.get i).st = .empty ∧ (s.spurs.get i).list = [] ∧
        (s.spurs.get i).gateTimer = none ∧ (s.spurs.get i).releaseTimer = none) ∧
      (∀ k ∈ Ix.all, (s.bays.get k).reserved = 0 ∧ (s.bays.get k).paddle = none)

/-! ### Spurs (R31, R101, R110, R113) -/

/-- Spur records that are all ANNOUNCED. -/
def allAnnounced (l : List SpurRec) : Prop := ∀ r ∈ l, r.sub = .announced

/-- The state of a spur and its front record agree as the table of R31 gives, the release timer is active exactly
while the spur is GRANTED, and the gate pulse timer only then; the passed-over count is at most 15. -/
def spurSound (x : Spur) : Prop :=
  (match x.st with
    | .empty => allAnnounced x.list
    | _ => ∃ r rest, x.list = r :: rest ∧ r.sub = .atGate ∧ allAnnounced rest) ∧
    x.releaseTimer.isSome = x.st.isGranted ∧ (x.gateTimer.isSome = true → x.st.isGranted = true) ∧
    x.passedOver ≤ 15

def SpursSound (s : State) : Prop := ∀ i ∈ Ix.all, spurSound (s.spurs.get i)

/-! ### Announced tags (R34) -/

/-- The tags of the expected list and of the three spur lists, tag 0 left out. -/
def announcedTags (s : State) : List (BitVec 32) :=
  (s.expected.map (fun n => n.ident.tag) ++
    Ix.all.flatMap fun i => (s.spurs.get i).list.map fun r => r.ident.tag).filter fun t => decide (t ≠ 0)

/-- No nonzero tag stands twice among the announced records. -/
def TagsUnique (s : State) : Prop := (announcedTags s).Nodup

/-! ### Identity fields (R24, R25, R165) -/

def groupSound (g : GroupPart) : Prop :=
  1 ≤ g.id ∧ g.id ≤ 65535 ∧ 2 ≤ g.count ∧ g.count ≤ 8 ∧ 1 ≤ g.index ∧ g.index ≤ g.count

def identSound (i : Ident) : Prop := (∀ g ∈ i.group, groupSound g) ∧ i.origin ≤ 61

/-- Every record's identity fields lie in their ranges, and the node's address is one of a node. -/
def IdentsSound (s : State) : Prop :=
  (∀ n ∈ s.expected, identSound n.ident) ∧ (∀ t ∈ s.zone, identSound t.ident) ∧
    (∀ i ∈ Ix.all, ∀ r ∈ (s.spurs.get i).list, identSound r.ident) ∧
    (∀ k ∈ Ix.all, ∀ r ∈ (s.bays.get k).landing, ∀ g ∈ r.group, groupSound g) ∧
    1 ≤ s.node.address ∧ s.node.address ≤ 61

/-! ### Reservations (R75) -/

/-- Zone records decided LAND at bay k. -/
def landRecords (k : Ix) (s : State) : Nat := (s.zone.filter fun t => decide (t.decision = .land k)).length

/-- Spurs GRANTED with their front record decided LAND at bay k. -/
def landGrants (k : Ix) (s : State) : Nat :=
  (Ix.all.filter fun i => (s.spurs.get i).st.grant?.any fun g => decide (g.decision = .land k)).length

/-- Every reserved count equals the LAND decisions that hold it, and at most one spur is GRANTED. -/
def ReservedSound (s : State) : Prop :=
  (∀ k ∈ Ix.all, (s.bays.get k).reserved = landRecords k s + landGrants k s) ∧
    (Ix.all.filter fun i => (s.spurs.get i).st.isGranted).length ≤ 1

/-! ### Credits (R135, R136, R145, R149) -/

/-- o never exceeds UP_LIMIT, is 0 throughout CONFIG and is g − r in LOCKED; the exit side's view never exceeds 16. -/
def CreditsSound (s : State) : Prop :=
  s.credit.o ≤ s.params.upLimit ∧ (s.node.state = .config → s.credit.o = 0) ∧
    (s.credit.mode = .locked → s.credit.o = (s.credit.g - s.credit.r).toNat) ∧ s.credit.view ≤ 16

/-- On a terminal node exit hold is clear and no record holds a claim. -/
def TerminalQuiet (s : State) : Prop :=
  s.params.terminal = 1 → s.credit.exitHold = false ∧ ∀ t ∈ s.zone, t.claim = none

/-! ### Order assembly and lamps (R33, R121, R127, R130) -/

/-- The landing record is a member of group `id`. -/
def memberOf (id : Nat) (r : LandingRec) : Bool := r.group.any fun g => decide (g.id = id)

/-- The landing record is a single-tote order (R121). -/
def singleOrder (r : LandingRec) : Bool := !r.unexpected && r.group.isNone

/-- The ready orders with an untaken tote in bay k, counted as R121 sums them; `c` keeps those of a class. -/
def readyOrders (c : Cls → Bool) (k : Ix) (s : State) : Nat :=
  (s.groups.filter fun e => e.ready && decide (0 < e.untaken.get k) && c e.cls).length +
    ((s.bays.get k).landing.filter fun r => singleOrder r && c r.cls).length

/-- A group entry's counts: taken ≤ landed ≤ member count, ready when all have landed, and its untaken counts are the
members standing in the lanes (R33, R127). -/
def entrySound (s : State) (e : GroupEntry) : Prop :=
  e.taken ≤ e.landed ∧ e.landed ≤ e.count ∧ (e.ready = true ↔ e.landed = e.count) ∧
    e.untaken.x0 + e.untaken.x1 + e.untaken.x2 + e.taken = e.landed ∧
    ∀ k ∈ Ix.all, e.untaken.get k = ((s.bays.get k).landing.filter (memberOf e.id)).length

/-- The group table, the landing lists and the ready counts agree. -/
def AssemblySound (s : State) : Prop :=
  (s.groups.map GroupEntry.id).Nodup ∧ (∀ e ∈ s.groups, entrySound s e) ∧
    (∀ k ∈ Ix.all, ∀ r ∈ (s.bays.get k).landing, ∀ g ∈ r.group,
      r.unexpected = false ∧ g.id ∈ s.groups.map GroupEntry.id) ∧
    (∀ k ∈ Ix.all, (s.bays.get k).ready = readyOrders (fun _ => true) k s ∧
      (s.bays.get k).rushReady = readyOrders Cls.isRush k s)

/-- A lamp is dark exactly at a bay with no ready order, its level is at most 8, and its step timer runs exactly while
it is lit (R130). -/
def lampSound (b : Bay) : Prop :=
  (b.lamp = 0 ↔ b.ready = 0) ∧ b.lamp ≤ 8 ∧ (b.lampTimer.isSome = true ↔ 0 < b.ready)

/-- The lamps agree with their bays' counts, and the outputs show levels of R130 in periods of five ticks (R132). -/
def LampsSound (s : State) : Prop :=
  (∀ k ∈ Ix.all, lampSound (s.bays.get k) ∧ s.lamps.shown.get k ≤ 8) ∧ s.lamps.phase < 5

end Sys2Proof.Safety
end

