-- ==== Sys2Proof/Certificates/Slice0/Obligations.lean ====
section
/-! DEFINITION. The statements for the provers, in the order of OBLIGATIONS.json. A command's statement gives the next state as
the rules give it; where the rules leave follow-up work to the shared tests of an event, the statement names them: reTest (merge
arbitration, then credit grants), exitTests (claims, then exits), finish (the transmitters take what waits). Each of these has
statements of its own. -/

namespace Sys2Proof.Claims

open Sys2Proof.Machine Sys2Proof.Safety

/-- A request that reaches the Management Unit at this node's address: the bus carries its LEN and its port's response queue has
a place (R166, R168). -/
def delivered (q : Request) (s : State) : Prop :=
  q.broadcast = false ∧ q.payload.length ≤ 60 ∧ (s.lines.get q.port).responses.length < 4

/-- The end of a request: its response queued, the transmitters taking what waits. -/
def answer (kind : Byte) (q : Request) (payload : List Byte) (s : State) : Result :=
  .next (s.respond kind q payload).finish

/-- The four forward moves of (ENCA, ENCB), from and to (R1). -/
def forwardMoves : List ((Bool × Bool) × (Bool × Bool)) :=
  [((false, false), (true, false)), ((true, false), (true, true)), ((true, true), (false, true)), ((false, true), (false, false))]

/-- Counters offered an event (R181). -/
def counted (e : EventCode) (k : Option Cls) (q : Option Nat) (s : State) : List Counter :=
  s.counters.map (Counter.offered e k q)

/-- A row of the table of R176: the id byte, the parameter, its range or set as intervals from least to greatest, its default, and
whether its class is C. -/
structure ParameterRow where
  id : Byte
  param : ParamId
  range : List (Nat × Nat)
  preset : Nat
  config : Bool

/-- The table of R176; bay k adds 8 k to the ids of bay 0, spur i adds 8 i to those of spur 0. -/
def parameterTable : List ParameterRow :=
  [⟨0x01, .encDiv, [(1, 1), (2, 2), (4, 4), (8, 8)], 4, true⟩, ⟨0x02, .speedWin, [(8, 8), (16, 16), (32, 32), (64, 64)], 16, true⟩,
   ⟨0x03, .entryFilter, [(1, 15)], 4, true⟩, ⟨0x04, .gateFilter, [(1, 15)], 4, true⟩, ⟨0x05, .bayFilter, [(1, 15)], 4, true⟩,
   ⟨0x06, .lenSmall, [(100, 4000)], 600, true⟩, ⟨0x07, .lenLarge, [(100, 4000)], 900, true⟩, ⟨0x08, .lenTol, [(0, 1000)], 80, true⟩,
   ⟨0x09, .gap, [(0, 1000)], 150, true⟩, ⟨0x0A, .jamLen, [(200, 16000)], 1500, true⟩,
   ⟨0x0B, .zoneExit, [(500, 65535)], 6000, true⟩, ⟨0x0C, .holdPoint, [(1, 65534)], 5400, true⟩,
   ⟨0x0D, .dueDist, [(100, 65535)], 1200, true⟩, ⟨0x0E, .stallMs, [(100, 5000)], 1000, true⟩,
   ⟨0x0F, .tagEnable, [(0, 1)], 0, true⟩, ⟨0x10, .tagHold, [(50, 4000)], 400, true⟩,
   ⟨0x11, .mergeMinSpeed, [(1, 1000)], 4, true⟩, ⟨0x12, .zoneBudget, [(4, 24)], 8, true⟩, ⟨0x13, .upLimit, [(1, 16)], 4, true⟩,
   ⟨0x14, .terminal, [(0, 1)], 0, true⟩, ⟨0x15, .patience, [(1, 15)], 3, false⟩, ⟨0x16, .chuteJamMs, [(500, 10000)], 3000, false⟩,
   ⟨0x17, .lampStepS, [(1, 255)], 20, false⟩, ⟨0x18, .chimeMs, [(50, 2000)], 400, false⟩,
   ⟨0x19, .reportLandings, [(0, 1)], 1, false⟩] ++
  Ix.all.flatMap (fun k =>
    [⟨byte (0x20 + 8 * k.toNat), .bayCap k, [(0, 8)], 0, true⟩, ⟨byte (0x21 + 8 * k.toNat), .bayRush k, [(0, 7)], 1, true⟩,
     ⟨byte (0x22 + 8 * k.toNat), .bayOffset k, [(100, 65535)], 3000, true⟩,
     ⟨byte (0x23 + 8 * k.toNat), .bayLatency k, [(0, 255)], 40, true⟩,
     ⟨byte (0x24 + 8 * k.toNat), .bayPulse k, [(20, 500)], 120, true⟩,
     ⟨byte (0x25 + 8 * k.toNat), .bayConfirm k, [(50, 2000)], 500, true⟩]) ++
  Ix.all.flatMap fun i =>
    [⟨byte (0x40 + 8 * i.toNat), .spurEnable i, [(0, 1)], 0, true⟩, ⟨byte (0x41 + 8 * i.toNat), .spurMerge i, [(100, 65535)], 2600, true⟩,
     ⟨byte (0x42 + 8 * i.toNat), .spurAdj i, [(0, 4000)], 400, true⟩, ⟨byte (0x43 + 8 * i.toNat), .spurGateMs i, [(50, 1000)], 300, true⟩,
     ⟨byte (0x44 + 8 * i.toNat), .spurReleaseMs i, [(100, 5000)], 1500, true⟩]

/-- What a parameter set holds, in the order of the table of R176. -/
def parameterValues (p : Params) : List Nat :=
  [p.encDiv, p.speedWin, p.entryFilter, p.gateFilter, p.bayFilter, p.lenSmall, p.lenLarge, p.lenTol, p.gap, p.jamLen, p.zoneExit,
   p.holdPoint, p.dueDist, p.stallMs, p.tagEnable, p.tagHold, p.mergeMinSpeed, p.zoneBudget, p.upLimit, p.terminal, p.patience,
   p.chuteJamMs, p.lampStepS, p.chimeMs, p.reportLandings] ++
  ([p.bay.x0, p.bay.x1, p.bay.x2].flatMap fun b => [b.cap, b.rush, b.offset, b.latency, b.pulse, b.confirm]) ++
  [p.spur.x0, p.spur.x1, p.spur.x2].flatMap fun x => [x.enable, x.merge, x.adj, x.gateMs, x.releaseMs]

/-- The codes of the node state (R174). -/
def nodeCode : NodeState → Byte
  | .config => 0x00
  | .run => 0x01
  | .halt => 0x02

/-- The codes of the halt cause (R152). -/
def causeCode : HaltCause → Byte
  | .none => 0x00
  | .request => 0x01
  | .eStop => 0x02
  | .jam => 0x03
  | .stall => 0x04
  | .encoder => 0x05

/-- The codes of a spur's state (R174). -/
def spurCode : SpurState → Byte
  | .empty => 0x00
  | .waiting => 0x01
  | .granted _ => 0x02
  | .blocked => 0x03

/-- The event codes (R181). -/
def eventCodes : List (EventCode × Byte) :=
  [(.none, 0x00), (.toteEntered, 0x01), (.divertDone, 0x02), (.divertMiss, 0x03), (.mergeDone, 0x04), (.missing, 0x05),
   (.stray, 0x06), (.overflowPass, 0x07), (.exitHoldMs, 0x08), (.mergeWaitMs, 0x09), (.zoneOccupancy, 0x0A),
   (.landingOccupancy, 0x0B), (.frameDrop, 0x0C), (.checkError, 0x0D), (.encoderError, 0x0E), (.tagOverrun, 0x0F),
   (.tagUnused, 0x10), (.takenUnknown, 0x11)]

/-- The qualifier bit of a port (R181). -/
def portBit : Port → Nat
  | .U => 0
  | .D => 1

/-- The class bit of a class mask (R181). -/
def classBit (c : Cls) : Nat := if c = .rush then 0 else 1

/-- A kind handed to the Management Unit that is no request kind (R166, R173). -/
def otherKind (k : Byte) : Prop := k.toNat < 0x80 ∧ k.toNat ∉ [1, 2, 3] ∧ (k.toNat < 0x10 ∨ 0x21 < k.toNat)

/-- The LEN of a NOTICE fits its group bit (R166). -/
def noticeFits (p : List Byte) : Prop :=
  ∃ attr, p[9]? = some attr ∧ (p.length = 11 ∧ attr.getLsbD 2 = false ∨ p.length = 14 ∧ attr.getLsbD 2 = true)

/-- The filter setting of an eye (R10). -/
def filterSetting (p : Params) : EyeId → Nat
  | .entry => p.entryFilter
  | .gate _ => p.gateFilter
  | .confirm _ => p.bayFilter
  | .front _ => p.bayFilter

/-- Whether the beam of an eye is blocked. -/
def beam (x : Inputs) : EyeId → Bool
  | .entry => x.entry
  | .gate i => x.gate.get i
  | .confirm k => x.confirm.get k
  | .front k => x.front.get k

/-- The command of an eye's blocked or clear edge (R11). -/
def edgeOf : EyeId → Bool → Instr
  | .entry, b => if b = true then .entryEyeBlocked else .entryEyeClear
  | .gate i, b => if b = true then .gateEyeBlocked i else .gateEyeClear i
  | .confirm k, b => if b = true then .confirmEyeBlocked k else .confirmEyeClear k
  | .front k, b => if b = true then .frontEyeBlocked k else .frontEyeClear k

/-- The nominal length of a tote (R20). -/
def nominalLength (p : Params) (size : Size) : Nat := if size = .large then p.lenLarge else p.lenSmall

/-- A spur is GRANTED. -/
def granting : SpurState → Bool
  | .granted _ => true
  | .empty | .waiting | .blocked => false

/-- The budget sum (R35). -/
def budgetSum (s : State) : Nat :=
  s.expected.length + s.zone.length + s.credit.o + if (Ix.all.any fun i => granting (s.spurs.get i).st) = true then 1 else 0

/-- The exit side's view (R142). -/
def viewOf (c : CreditUnit) : Nat := (c.G - c.s).toNat

/-- The port is sending a response with a NODE RESET behind it (R170). -/
def resetWaits (p : Port) (s : State) : Prop :=
  ∃ f : OutFrame, f.thenReset = true ∧ (s.lines.get p).tx = some f

/-- One grant of R136, if its conditions hold. -/
def grantOnce (s : State) : Option State :=
  if s.node.state ≠ .config ∧ s.credit.o < s.params.upLimit ∧ budgetSum s < s.params.zoneBudget then
    some { s with credit := { s.credit with
      o := s.credit.o + 1
      g := if s.credit.mode = .locked then s.credit.g + 1 else s.credit.g
      waiting := min 16 (s.credit.waiting + 1) } }
  else none

/-- Grants of R136, one after another, at most n. -/
def grantRepeatedly : Nat → State → State
  | 0, s => s
  | n + 1, s =>
    match grantOnce s with
    | some t => grantRepeatedly n t
    | none => s

/-- The receiver's run over characters, with the frames completed and the abandonments, in order (R163). -/
def receive : RxState → List LineChar → RxState × List RxResult
  | rx, [] => (rx, [])
  | rx, c :: cs => ((receive (rxChar rx c).1 cs).1, (rxChar rx c).2 :: (receive (rxChar rx c).1 cs).2)

/-- The request commands with their KINDs (R174). -/
def requestCommands : List (Byte × (Request → Instr)) :=
  [(0x10, .inquire), (0x11, .setParameters), (0x12, .readParameters), (0x13, .routeWrite), (0x14, .routeCommit),
   (0x15, .routeRead), (0x16, .spurNotice), (0x17, .spurRestore), (0x18, .bayClear), (0x19, .listRead), (0x1A, .counterSetup),
   (0x1B, .counterRead), (0x1C, .counterClear), (0x1D, .start), (0x1E, .halt), (0x1F, .resume), (0x20, .config),
   (0x21, .nodeReset)]

/-- The LENs a kind's payload may have, for the kinds whose LEN is fixed (R174). -/
def fixedLengths : List (Byte × List Nat) :=
  [(0x10, [0]), (0x14, [0]), (0x15, [3]), (0x16, [10, 13]), (0x17, [1]), (0x18, [2]), (0x19, [2]), (0x1A, [4]), (0x1B, [0]),
   (0x1C, [1]), (0x1D, [0]), (0x1E, [0]), (0x1F, [0]), (0x20, [0]), (0x21, [0])]

/-- A state but for its counters, which have been offered a FRAME_DROP at the port (R166 to R168). -/
def dropped (p : Port) (s : State) : State := { s with counters := counted .frameDrop none (some (portBit p)) s }

/-- A state but for its counters, which have been offered a CHECK_ERROR at the port (R163). -/
def tooLong (p : Port) (s : State) : State := { s with counters := counted .checkError none (some (portBit p)) s }

/-- One parameter pair passes the tests of R177. -/
def pairPasses (x : Byte × Nat) (s : State) : Prop :=
  ∃ id, ParamId.ofByte x.1 = some id ∧ id.valueOk x.2 = true ∧ (id.configClass = true → s.node.state = .config)

/-- The parameter pairs of a payload all pass the tests of R177. -/
def pairsPass (p : List Byte) (s : State) : Prop := ∀ x ∈ triplesOf p, pairPasses x s

/-- What a written pair does to the pending tag and the counters: TAG_ENABLE 0 discards the tag, TAG_HOLD tests its expiry
(R15, R16, R177). -/
def pairOnTag (P : Pos) (a : Option PendingTag × List Counter) (x : Byte × Nat) : Option PendingTag × List Counter :=
  if x = (0x0F, 0) then (none, a.2)
  else if x.1 = 0x10 ∧ (a.1.any fun y => reached P (y.since + BitVec.ofNat 24 x.2)) = true then
    (none, a.2.map (Counter.offered .tagUnused none none))
  else a

/-- A SPUR NOTICE for spur i with the identity fields d, as decoded and normalised, finds the spur able to take it (R100). -/
def spurTakes (i : Ix) (d : Ident) (s : State) : Prop :=
  s.node.state ≠ .config ∧ (s.params.spur.get i).enable = 1 ∧ (s.spurs.get i).list.length < 6 ∧
    (d.tag ≠ 0 → (∀ n ∈ s.expected, n.ident.tag ≠ d.tag) ∧ ∀ j, ∀ r ∈ (s.spurs.get j).list, r.ident.tag ≠ d.tag)

/-- The zone list at its claim candidate: the records that hold a claim at its front, the candidate, the rest (R146). -/
def candidateSplit (zone : List Tote) : Option (List Tote × Tote × List Tote) :=
  match zone.dropWhile fun t => t.claim.isSome with
  | [] => none
  | t :: rest => some (zone.takeWhile fun t => t.claim.isSome, t, rest)

/-- P has reached the hold position of a RIDING record (R146, R147). -/
def pastHold (s : State) (t : Tote) : Bool :=
  t.track.code == 1 && reached s.pos.P (t.lead + BitVec.ofNat 24 s.params.holdPoint)

/-- The candidate t between a and rest claims: it takes s, s rises, and a view above 16 falls to 0 (R145, R147). -/
def claimAt (a : List Tote) (t : Tote) (rest : List Tote) (s : State) : State :=
  { s with
    zone := a ++ { t with track := .riding t.track.length (some s.credit.s) } :: rest
    credit := if 16 < (s.credit.G - (s.credit.s + 1)).toNat then { s.credit with s := s.credit.s + 1, G := s.credit.s + 1 }
      else { s.credit with s := s.credit.s + 1 } }

/-- One claim of R147, if the candidate is RIDING past its hold point and the view is 1 or more. -/
def claimOnce (s : State) : Option State :=
  match candidateSplit s.zone with
  | some (a, t, rest) => if pastHold s t = true ∧ 1 ≤ viewOf s.credit then some (claimAt a t rest s) else none
  | none => none

/-- Claims of R147, one after another, at most n. -/
def claimRepeatedly : Nat → State → State
  | 0, s => s
  | n + 1, s =>
    match claimOnce s with
    | some t => claimRepeatedly n t
    | none => s

/-- The candidate waits for a view: RIDING past its hold point with the view at 0 (R147). -/
def heldAtExit (s : State) : Bool :=
  match candidateSplit s.zone with
  | some (_, t, _) => pastHold s t && decide (viewOf s.credit = 0)
  | none => false

/-- The claims of an event made one by one from s on, at most n, and exit hold as they leave it (R147, R148). -/
def claimed (n : Nat) (s : State) : State :=
  { claimRepeatedly n s with
    credit := { (claimRepeatedly n s).credit with exitHold := heldAtExit (claimRepeatedly n s) } }

/-- A miss of R58, R84 or R86 outside the record: the reservation released, DIVERT_MISS reported and offered. -/
def missed (cause : Nat) (k : Ix) (i : Ident) (s : State) : State :=
  ((s.modBay k fun b => { b with reserved := b.reserved - 1 }).report .divertMiss (3 * cause + k.toNat) i.tag i.order).offer
    .divertMiss (some i.cls) (some k.toNat)

/-- What the edge event of a change of eye i to b carries when it is accepted now: its direction, P as its stamp, its high-water
flag and, for a clear edge, the blocked-since position (R11, R12). -/
def edgeEvent (i : EyeId) (b : Bool) (s : State) : Edge :=
  ⟨b, s.pos.P, decide (s.pos.P = s.pos.Hw), if b = true then none else (s.eyes.get i).since.map Prod.fst⟩

/-- An eye whose change to b is accepted now, with the edge events w waiting (R10 to R12). -/
def changedEye (b : Bool) (w : List Edge) (s : State) : Eye :=
  ⟨b, 0, if b = true then some (s.pos.P, s.time.ticks) else none, w⟩

/-- The jam position at a change of the entry eye to b (R54). -/
def jamOf (b : Bool) (s : State) : Option Pos := if b = true then some (s.pos.P + BitVec.ofNat 24 s.params.jamLen) else none

/-- The state of a change of eye i accepted now and taken at once, the jam position following the entry eye (R11, R12, R54). -/
def withEdge (i : EyeId) (b : Bool) (s : State) : State :=
  { s with eyes := s.eyes.put i (changedEye b [] s), jamAt := if i = .entry then jamOf b s else s.jamAt }

/-- The command of eye i and direction b takes the edge event e and leaves the owner the state u: e is the oldest that waits, or,
where none waits and the filtered state differs, the one accepted now (R11, log 4). -/
def edgeTaken (i : EyeId) (b : Bool) (s : State) (e : Edge) (u : State) : Prop :=
  (∃ rest, (s.eyes.get i).waiting = e :: rest ∧ e.blocked = b ∧
      u = { s with eyes := s.eyes.put i { s.eyes.get i with waiting := rest } }) ∨
    ((s.eyes.get i).waiting = [] ∧ (s.eyes.get i).blocked ≠ b ∧ e = edgeEvent i b s ∧ u = withEdge i b s)

/-- No edge of eye i has the direction b: the oldest event that waits has the other, or none waits and the eye stands so already. -/
def noEdge (i : EyeId) (b : Bool) (s : State) : Prop :=
  (∃ e rest, (s.eyes.get i).waiting = e :: rest ∧ e.blocked ≠ b) ∨
    ((s.eyes.get i).waiting = [] ∧ (s.eyes.get i).blocked = b)

/-- The Tracker honours an entry-eye edge: its high-water flag is set and the node is in RUN or HALT (R43). -/
def honoured (e : Edge) (s : State) : Prop := e.highWater = true ∧ s.node.state ≠ .config

/-- What remains of the leading edge's event: the new record with the edge's stamp as its lead and its route decision, then the
tests (R43, R48, R66). -/
def afterEntry (stamp : Pos) (i : Ident) (stray noRead : Bool) (s : State) : Result :=
  .next ((((s.appendEntering stamp i stray noRead).dropOverdue).exitTests).reTest).finish

/-- The free count of a bay (R72). -/
def freePlaces (s : State) (k : Ix) : Int :=
  max 0 (((s.params.bay.get k).cap : Int) - (s.bays.get k).landing.length - (s.bays.get k).reserved)

/-- The bay is admitted for the class (R72). -/
def admitted (s : State) (k : Ix) (c : Cls) : Prop :=
  1 ≤ (s.params.bay.get k).cap ∧ (s.bays.get k).blocked = false ∧
    (if c = .rush then 1 ≤ freePlaces s k else ((s.params.bay.get k).rush : Int) + 1 ≤ freePlaces s k)

/-- The bays an entry permits: primary and alternate of LAND, the mask of BEST (R68). -/
def permitted : RouteEntry → Ix → Prop
  | .pass, _ => False
  | .land p a, k => k = p ∨ a = some k
  | .best m, k => m.get k = true

/-- Group affinity would choose bay k (R68). -/
def affine (s : State) (e : RouteEntry) (i : Ident) (k : Ix) : Prop :=
  permitted e k ∧ admitted s k i.cls ∧
    ∃ g x, i.group = some g ∧ (s.groups.find? fun y => decide (y.id = g.id)) = some x ∧ 0 < x.untaken.get k

/-- What a route decision leaves behind: a reservation (R73), or its report and event (R67, R71). -/
def routeLeaves (o : RouteOutcome) (i : Ident) (stray : Bool) (x : State) : State :=
  if o.noRoute = true then (if stray = true then x else x.report .overflowPass 0 i.tag i.order)
  else if o.overflow = true then (x.report .overflowPass i.dest.toNat i.tag i.order).offer .overflowPass (some i.cls) none
  else
    match o.decision with
    | .pass => x
    | .land k => x.modBay k fun b => { b with reserved := b.reserved + 1 }

/-- A record armed for bay k: fire base, late limit and fire target (R79). -/
def armedFor (s : State) (lead : Pos) (len : Nat) (k : Ix) : Track :=
  let base := lead + BitVec.ofNat 24 (s.params.bay.get k).offset + BitVec.ofNat 24 (len / 2)
  .armed len k base (base + BitVec.ofNat 24 (s.params.bay.get k).confirm) (base - BitVec.ofNat 24 (s.pos.comp.get k))

/-- The class of a spur is that of its front record (R108). -/
def frontClass (x : Spur) (c : Cls) : Bool := x.list.head?.any fun r => decide (r.ident.cls = c)

/-- The tote record is CONFIRMING at bay k. -/
def confirmingAt (k : Ix) (t : Tote) : Prop := t.track.code = 3 ∧ t.decision = .land k

/-- The landing record of a zone record (R32, R87). -/
def landingOf (t : Tote) : LandingRec := ⟨t.ident.tag, t.ident.order, t.ident.cls, t.ident.group, false⟩

/-- A landing or removal report, appended with REPORT_LANDINGS 1 (R87, R94, R97). -/
def reportIf (k : ReportKind) (detail : Nat) (tag : BitVec 32) (order : BitVec 24) (s : State) : State :=
  if s.params.reportLandings = 1 then s.report k detail tag order else s

/-- One removal by BAY CLEAR at bay k: the front record leaves the lane, TAKEN with detail 3 + k where it is reported, and is handed
to the Assembly Unit unless it is UNEXPECTED (R97, R128). -/
def removeFront (k : Ix) (s : State) : State :=
  match (s.bays.get k).landing with
  | [] => s
  | r :: rest =>
    let x := reportIf .taken (3 + k.toNat) r.tag r.order (s.modBay k fun b => { b with landing := rest })
    if r.unexpected = true then x else x.assemblyTaken k r

/-- n removals, each finished before the next (R128). -/
def removeRepeatedly (k : Ix) : Nat → State → State
  | 0, s => s
  | n + 1, s => removeRepeatedly k n (removeFront k s)

/-- A ready order called at a bay: lamp at level 1, chime and step timer started anew (R130). -/
def called (p : Params) (rush : Bool) (b : Bay) : Bay :=
  { b with
    ready := b.ready + 1, rushReady := b.rushReady + (if rush = true then 1 else 0), lamp := 1, chime := some p.chimeMs
    lampTimer := some (p.lampStepS * 1000) }

/-- A ready order gone from a bay: with none left the lamp goes dark and its step timer stops (R126, R127, R130). -/
def gone (rush : Bool) (b : Bay) : Bay :=
  { b with
    ready := b.ready - 1, rushReady := b.rushReady - (if rush = true then 1 else 0)
    lamp := if b.ready - 1 = 0 then 0 else b.lamp, lampTimer := if b.ready - 1 = 0 then none else b.lampTimer }

/-- The Divert Unit's test of the zone record at place n (R81, R86). -/
def divertAt (n : Nat) (s : State) : State :=
  match s.zone[n]? with
  | some t => { (s.testDivert t).2 with zone := s.zone.set n (s.testDivert t).1 }
  | none => s

/-- The Divert Unit's test of the zone record at place n, if it is ARMED (R80, R81). -/
def armedAt (n : Nat) (s : State) : State :=
  if (s.zone[n]?.any fun t => t.track.code == 2) = true then divertAt n s else s

/-- A zone record whose fire target is set anew from the compensations, if it is ARMED (R80). -/
def aimed (comp : Tri Nat) (t : Tote) : Tote :=
  match t.track with
  | .armed len k base late _ => { t with track := .armed len k base late (base - BitVec.ofNat 24 (comp.get k)) }
  | _ => t

/-- Exits of R55, one after another, each followed by the claims of the records that remain, at most n. -/
def exitRepeatedly : Nat → State → State
  | 0, s => s
  | n + 1, s =>
    match s.zone with
    | t :: rest =>
      if reached s.pos.P (t.lead + BitVec.ofNat 24 s.params.zoneExit) = true then exitRepeatedly n (s.exitFront t rest).claims
      else s
    | [] => s

/-- The tests of START in their order: C1 to C9, within a constraint by spur, then by bay (R22). -/
def setupOrder : List SetupFault :=
  [⟨1, none, none⟩, ⟨2, none, none⟩, ⟨3, none, none⟩, ⟨4, none, none⟩] ++
    Ix.all.map (fun k => ⟨5, none, some k⟩) ++ Ix.all.map (fun k => ⟨6, none, some k⟩) ++
    Ix.all.map (fun i => ⟨7, some i, none⟩) ++ Ix.all.flatMap (fun i => Ix.all.map fun k => ⟨8, some i, some k⟩) ++
    Ix.all.map (fun i => ⟨9, some i, none⟩)

/-- What the named test asks of the parameters, a disabled bay or spur being asked nothing (R22). -/
def setupHolds (p : Params) (f : SetupFault) : Prop :=
  match f.constraint, f.spur, f.bay with
  | 1, _, _ => p.holdPoint < p.zoneExit
  | 2, _, _ => p.lenLarge < p.jamLen
  | 3, _, _ => p.lenSmall ≤ p.lenLarge
  | 4, _, _ => p.upLimit ≤ p.zoneBudget
  | 5, _, some k => 1 ≤ (p.bay.get k).cap → (p.bay.get k).rush < (p.bay.get k).cap
  | 6, _, some k => 1 ≤ (p.bay.get k).cap → (p.bay.get k).offset + p.lenLarge + (p.bay.get k).confirm < p.holdPoint
  | 7, some i, _ => (p.spur.get i).enable = 1 → ((p.spur.get i).merge : Int) - (p.spur.get i).adj ≥ p.lenLarge + p.gap
  | 8, some i, some k => (p.spur.get i).enable = 1 → 1 ≤ (p.bay.get k).cap →
      (p.spur.get i).merge + p.lenLarge + p.gap < (p.bay.get k).offset
  | 9, some i, _ => (p.spur.get i).enable = 1 → (p.spur.get i).merge + p.lenLarge < p.holdPoint
  | _, _, _ => True

/-- The pending tag's expiry test (R16). -/
def tagExpiry (s : State) : State :=
  match s.tagPort.pending with
  | some x =>
    if reached s.pos.P (x.since + BitVec.ofNat 24 s.params.tagHold) = true then
      { s with tagPort := { s.tagPort with pending := none }, counters := counted .tagUnused none none s }
    else s
  | none => s

/-- The entry eye's jam test (R54). -/
def jamHalt (s : State) : State :=
  match s.jamAt with
  | some a =>
    if s.node.state = .run ∧ s.eyes.entry.blocked = true ∧ reached s.pos.P a = true then s.enterHalt .jam else s
  | none => s

/-- All tests of an event in which P has changed, in the order of log 7 (R4, R16, R41, R54, R81, R147, R55, R106, R136). -/
def afterMove (s : State) : State :=
  let x := jamHalt (tagExpiry s).dropOverdue
  (((List.range x.zone.length).foldl (fun y n => divertAt n y) x).exitTests).reTest

/-- The report kinds with their codes (R172). -/
def reportCodes : List (ReportKind × Byte) :=
  [(.missing, 0x01), (.stray, 0x02), (.untracked, 0x03), (.lengthMismatch, 0x04), (.noticeRefused, 0x05), (.noticeStale, 0x06),
   (.noticeGap, 0x07), (.noticeBeyondCredit, 0x08), (.creditResync, 0x09), (.overflowPass, 0x0A), (.divertMiss, 0x0B),
   (.landed, 0x0C), (.unexpectedLanding, 0x0D), (.taken, 0x0E), (.bayBlocked, 0x0F), (.bayUnblocked, 0x10), (.orderReady, 0x11),
   (.orderCollected, 0x12), (.groupUntracked, 0x13), (.groupExcess, 0x14), (.spurStray, 0x15), (.spurLost, 0x16),
   (.spurStuck, 0x17), (.spurLate, 0x18), (.exited, 0x19), (.halted, 0x1A), (.resumed, 0x1B), (.discarded, 0x1C)]

/-- A 32-bit field, high byte first (R172). -/
def wire32 (x : BitVec 32) : List Byte := [x.extractLsb' 24 8, x.extractLsb' 16 8, x.extractLsb' 8 8, x.extractLsb' 0 8]

/-- A 24-bit field, high byte first (R172). -/
def wire24 (x : BitVec 24) : List Byte := [x.extractLsb' 16 8, x.extractLsb' 8 8, x.extractLsb' 0 8]

/-- The nine bytes of a report entry: kind, detail, tag, order (R172). -/
def entryBytes (r : Report) : List Byte :=
  [(reportCodes.lookup r.kind).getD 0x00, r.detail] ++ wire32 r.tag ++ wire24 r.order

/-! #### The list record of R172: its 18 bytes in order, and beside them the exit claim byte of LIST READ -/

/-- A byte from its bits, bit 7 first. -/
def bits8 (b7 b6 b5 b4 b3 b2 b1 b0 : Bool) : Byte :=
  BitVec.ofBool b7 ++ BitVec.ofBool b6 ++ BitVec.ofBool b5 ++ BitVec.ofBool b4 ++ BitVec.ofBool b3 ++ BitVec.ofBool b2 ++
    BitVec.ofBool b1 ++ BitVec.ofBool b0

/-- Byte 8: OVERFLOW, MERGED, LENGTH_MISMATCH, NO_READ, STRAY, group part present, size LARGE, class RUSH. -/
def markByte (overflow merged mismatch noRead stray : Bool) (group : Option GroupPart) (size : Size) (cls : Cls) : Byte :=
  bits8 overflow merged mismatch noRead stray group.isSome (decide (size = .large)) (decide (cls = .rush))

/-- Bits 2–3 of byte 9. -/
def decisionBits : Decision → BitVec 2
  | .pass => 0
  | .land .i0 => 1
  | .land .i1 => 2
  | .land .i2 => 3

/-- Byte 9: granted, exit claim present, NO_ROUTE, MISSED, the decision, the state. -/
def stateByte (granted claim noRoute missed : Bool) (d : Decision) (state : BitVec 2) : Byte :=
  BitVec.ofBool granted ++ BitVec.ofBool claim ++ BitVec.ofBool noRoute ++ BitVec.ofBool missed ++ decisionBits d ++ state

/-- Bytes 10 to 12: the group id, then member count and index; 0 where absent. -/
def groupWire : Option GroupPart → List Byte
  | some g => [byte (g.id / 256), byte g.id, byte (16 * g.count + g.index)]
  | none => [0x00, 0x00, 0x00]

/-- What a zone record's tracking fields show: state, decision, exit claim and length; an ENTERING one has no length yet. -/
def trackFields : Track → BitVec 2 × Decision × Option Byte × Nat
  | .entering d => (0, d, none, 0)
  | .riding len claim => (1, .pass, claim, len)
  | .armed len k _ _ _ => (2, .land k, none, len)
  | .confirming len k _ _ _ => (3, .land k, none, len)

/-- A zone record as LIST READ returns it. -/
def zoneRecord (t : Tote) : List Byte × Byte :=
  let x := trackFields t.track
  (wire32 t.ident.tag ++ wire24 t.ident.order ++ [t.ident.dest.setWidth 8,
      markByte t.flags.overflow t.flags.merged t.flags.lengthMismatch t.flags.noRead t.flags.stray t.ident.group t.ident.size
        t.ident.cls,
      stateByte false x.2.2.1.isSome t.flags.noRoute t.flags.missed x.2.1 x.1] ++
    groupWire t.ident.group ++ wire24 t.lead ++ [byte (x.2.2.2 / 256), byte x.2.2.2], x.2.2.1.getD 0x00)

/-- A notice record: no flags, decision, lead or length; state 0. -/
def noticeRecord (n : Notice) : List Byte × Byte :=
  (wire32 n.ident.tag ++ wire24 n.ident.order ++ [n.ident.dest.setWidth 8,
      markByte false false false false false n.ident.group n.ident.size n.ident.cls, 0x00] ++
    groupWire n.ident.group ++ [0x00, 0x00, 0x00, 0x00, 0x00], 0x00)

/-- A spur record that holds no grant: state 1 at the gate, 0 announced. -/
def spurRecord (r : SpurRec) : List Byte × Byte :=
  (wire32 r.ident.tag ++ wire24 r.ident.order ++ [r.ident.dest.setWidth 8,
      markByte false false false false r.stray r.ident.group r.ident.size r.ident.cls,
      stateByte false false false false .pass (if r.sub = .atGate then 1 else 0)] ++
    groupWire r.ident.group ++ [0x00, 0x00, 0x00, 0x00, 0x00], 0x00)

/-- The front record of a GRANTED spur: granted, with its decision, that decision's flags and its virtual lead. -/
def grantedRecord (g : Grant) (r : SpurRec) : List Byte × Byte :=
  (wire32 r.ident.tag ++ wire24 r.ident.order ++ [r.ident.dest.setWidth 8,
      markByte g.overflow false false false r.stray r.ident.group r.ident.size r.ident.cls,
      stateByte true false g.noRoute false g.decision (if r.sub = .atGate then 1 else 0)] ++
    groupWire r.ident.group ++ wire24 g.lead ++ [0x00, 0x00], 0x00)

/-- The records of a spur list, front first. -/
def spurRecords (x : Spur) : List (List Byte × Byte) :=
  match x.st, x.list with
  | .granted g, r :: rest => grantedRecord g r :: rest.map spurRecord
  | _, l => l.map spurRecord

/-- A landing record: dest, size, decision, lead and length 0; state 1 for UNEXPECTED. -/
def landingRecord (r : LandingRec) : List Byte × Byte :=
  (wire32 r.tag ++ wire24 r.order ++ [0x00, markByte false false false false false r.group .small r.cls,
      stateByte false false false false .pass (if r.unexpected = true then 1 else 0)] ++
    groupWire r.group ++ [0x00, 0x00, 0x00, 0x00, 0x00], 0x00)

/-- The eight lists that LIST READ can name, by list id, each front first (R36, R174). -/
def readableLists (s : State) : List (List (List Byte × Byte)) :=
  [s.expected.map noticeRecord, s.zone.map zoneRecord] ++ Ix.all.map (fun i => spurRecords (s.spurs.get i)) ++
    Ix.all.map fun k => (s.bays.get k).landing.map landingRecord

/-- The two bytes of a route entry (R172). -/
def routeWire : RouteEntry → List Byte
  | .pass => [0x00, 0x00]
  | .land p a => [0x01, BitVec.ofNat 4 (a.elim 15 Ix.toNat) ++ BitVec.ofNat 4 p.toNat]
  | .best m => [0x02, bits8 false false false false false m.x2 m.x1 m.x0]

/-- A route entry is well formed: the alternate is not the primary, the mask not 0 (R62). -/
def routeSound (e : RouteEntry) : Prop := (∀ p a, e = .land p a → a ≠ some p) ∧ e ≠ .best (.const false)

/-- The remainder of R164 after one more data byte, most significant bit first. -/
def crcStep (rem : BitVec 16) (x : Byte) : BitVec 16 :=
  [7, 6, 5, 4, 3, 2, 1, 0].foldl
    (fun r n => if r.getLsbD 15 = x.getLsbD n then r <<< 1 else (r <<< 1) ^^^ 0x1021) rem

/-- The receiver's table of R163 for a character that is not added to a frame. That one which is marked and has a framing error goes
by the framing-error row is log 25's choice. -/
def receiverTable (rx : RxState) (c : LineChar) : Option (RxState × RxResult) :=
  match rx with
  | .idle => some (if c.mark = true ∧ c.framingError = false then (.inFrame [c.data], .quiet) else (.idle, .quiet))
  | .inFrame _ =>
    if c.framingError = true then some (.idle, .abandoned)
    else if c.mark = true then some (.inFrame [c.data], .abandoned)
    else if c.gap = true then some (.idle, .abandoned)
    else none

end Sys2Proof.Claims

open Sys2Proof Sys2Proof.Machine Sys2Proof.Safety Sys2Proof.Claims

/-! ### The machine, resets, position and inputs -/

/-- A step takes the command at the front of the queue and answers its meaning on the rest (log 1). -/
def Obligations.StepTakesFrontCommand : Prop :=
  ∀ (c : Instr) (rest : List Instr) (s : State), s.pending = c :: rest → step s = exec c { s with pending := rest }

/-- On an empty queue a step is one 0.25 ms sample period (the model's choice of log 2): the filter counts and the phase of the tick
go on, and the queue holds exactly what the sample brings: with every fourth the tick and the expiry of each timer that has one
tick left or none, then the edges accepted by R153 and, at the filter setting of its group of eyes, by R10. An eye's change is
accepted here: the filtered state and the blocked-since values change, and the edge event with its stamp, its high-water flag and
the blocked-since position of a clear edge waits for its command (R11, R12). The jam position follows the entry eye; nothing else
changes.
The order of one sample's commands is log 6's, the phase of the tick log 23's. -/
def Obligations.IdleStepSamplesThePins : Prop :=
  ∀ s : State, s.pending = [] →
    ∃ t, step s = .next t ∧
      t = { s with
        time := { s.time with quarter := if 4 ≤ s.time.quarter + 1 then 0 else s.time.quarter + 1 }, eyes := t.eyes, jamAt := t.jamAt,
        node := { s.node with estopCount := t.node.estopCount }, pending := t.pending } ∧
      (∀ i : EyeId,
        t.eyes.get i =
          if beam s.inputs i = (s.eyes.get i).blocked then { s.eyes.get i with count := 0 }
          else if filterSetting s.params i ≤ (s.eyes.get i).count + 1 then
            changedEye (beam s.inputs i) ((s.eyes.get i).waiting ++ [edgeEvent i (beam s.inputs i) s]) s
          else { s.eyes.get i with count := (s.eyes.get i).count + 1 }) ∧
      t.jamAt = (if s.inputs.entry ≠ s.eyes.entry.blocked ∧ s.params.entryFilter ≤ s.eyes.entry.count + 1 then
        jamOf s.inputs.entry s else s.jamAt) ∧
      t.node.estopCount =
        (if s.inputs.estop = s.node.estopActive ∨ 4 ≤ s.node.estopCount + 1 then 0 else s.node.estopCount + 1) ∧
      let due := fun (x : Timer) (c : Instr) => if x = some 0 ∨ x = some 1 then [c] else []
      let expiries :=
        (Ix.all.flatMap fun k => due (s.bays.get k).paddle (.paddlePulseExpiry k)) ++
        (Ix.all.flatMap fun i => due (s.spurs.get i).gateTimer (.gatePulseExpiry i)) ++
        (Ix.all.flatMap fun i => due (s.spurs.get i).releaseTimer (.releaseTimerExpiry i)) ++
        (Ix.all.flatMap fun k => due (s.bays.get k).chime (.chimeExpiry k)) ++
        (Ix.all.flatMap fun k => due (s.bays.get k).chuteJam (.chuteJamExpiry k)) ++
        (Ix.all.flatMap fun k => due (s.bays.get k).lampTimer (.lampStepExpiry k)) ++
        due s.pos.windowTimer .speedSample ++ due s.credit.refresh .creditRefresh
      t.pending = (if 4 ≤ s.time.quarter + 1 then .millisecondTick :: expiries else []) ++
        (if s.inputs.estop ≠ s.node.estopActive ∧ 4 ≤ s.node.estopCount + 1 then
          [if s.inputs.estop = true then .eStopAssertion else .eStopRelease] else []) ++
        ([.entry, .gate .i0, .gate .i1, .gate .i2, .confirm .i0, .confirm .i1, .confirm .i2, .front .i0, .front .i1,
          .front .i2] : List EyeId).flatMap fun i =>
          if beam s.inputs i ≠ (s.eyes.get i).blocked ∧ filterSetting s.params i ≤ (s.eyes.get i).count + 1 then
            [edgeOf i (beam s.inputs i)] else []

/-- POWER_ON, RESET_PIN and the NODE RESET whose response has been sent leave every block at the values its chapter gives.
That the pin levels and the waiting commands stay is log 3's choice, and when the third of them acts is log 13's. -/
def Obligations.ResetsLeaveTheGivenValues : Prop :=
  ∀ s : State, ∃ t,
    exec .powerOn s = .next t ∧ exec .resetPin s = .next t ∧
    (∀ p, resetWaits p s → exec (.nodeResetTakesEffect p) s = .next t) ∧
    (∀ p, ¬ resetWaits p s → exec (.nodeResetTakesEffect p) s = .next s) ∧
    (∀ p f, (s.lines.get p).tx = some f → f.thenReset = true → exec (.frameSent p) s = .next t) ∧
    (t.pos.P = 0 ∧ t.pos.Hw = 0 ∧ t.pos.sub = 0 ∧ t.pos.encPrev = none ∧ t.pos.S = 0 ∧ t.pos.comp = .const 0 ∧
      t.pos.invalid = 0 ∧ t.pos.stall = 0 ∧ t.pos.windowTimer = none) ∧
    (∀ i, t.eyes.get i = ⟨false, 0, none, []⟩) ∧ t.tagPort = ⟨.awaitStart, none⟩ ∧ t.time.ticks = 0 ∧
    parameterValues t.params = parameterTable.map ParameterRow.preset ∧
    t.expected = [] ∧ t.zone = [] ∧ t.jamAt = none ∧ t.groups = [] ∧ t.budget = 0 ∧
    (∀ i, t.spurs.get i = ⟨.empty, [], 0, none, none⟩) ∧ t.lastWinner = .i2 ∧
    (∀ k, t.bays.get k = ⟨[], 0, false, none, none, 0, 0, 0, none, none⟩) ∧
    (t.routes.active = List.replicate 128 .pass ∧ t.routes.standby = List.replicate 128 .pass ∧ t.routes.generation = 0) ∧
    t.credit = ⟨.sync, 0, 0, 0, 0, 0, true, false, 0, none⟩ ∧
    (t.node.state = .config ∧ t.node.cause = .none ∧ t.node.estopActive = true ∧ t.node.estopCount = 0 ∧
      t.node.address = if 1 ≤ s.inputs.straps.toNat ∧ s.inputs.straps.toNat ≤ 61 then s.inputs.straps.toNat else 61) ∧
    (∀ p, t.lines.get p = ⟨.idle, [], [], 0, none⟩) ∧ t.lines.notices = [] ∧ t.lines.seq = 0 ∧
    t.reports = [] ∧ t.dropped = 0 ∧ t.counters = List.replicate 4 ⟨.none, 0, 0, 0⟩ ∧
    t.outputs = ⟨false, .const false, .const false, .const false, .const false, .const 0, .heldHigh, .heldHigh⟩ ∧
    t.inputs = s.inputs ∧ t.pending = s.pending

/-- Position b has reached position a exactly where d(a, b) is zero or positive; an advance and a step back wrap at 2^24. -/
def Obligations.ReachedIsSignedDifference : Prop :=
  (∀ a b : Pos, (reached b a = true ↔ 0 ≤ dist a b) ∧ (reached b a = true ↔ (b - a).toNat < 8388608)) ∧
    (∀ a b : Pos, (dist a b = (b - a).toNat ∨ dist a b = (b - a).toNat - 16777216) ∧ -8388608 ≤ dist a b ∧ dist a b < 8388608) ∧
    ∀ p : Pos, (p + 1).toNat = (if p.toNat = 16777215 then 0 else p.toNat + 1) ∧
      (p - 1).toNat = (if p.toNat = 0 then 16777215 else p.toNat - 1)

/-- An encoder sample: the pair is kept; a forward or reverse move counts into the sub-count and steps P, with the high-water mark
of R5; any other change of the pair is counted as invalid and is no travel. -/
def Obligations.EncoderMovesPosition : Prop :=
  ∀ (s : State) (a b : Bool), ∃ t, exec (.encoderTransition a b) s = .next t ∧ t.pos.encPrev = some (a, b) ∧
    t.pos.S = s.pos.S ∧ t.pos.comp = s.pos.comp ∧ t.pos.stall = s.pos.stall ∧ t.pos.windowStart = s.pos.windowStart ∧
    t.time = s.time ∧ t.eyes = s.eyes ∧ t.params = s.params ∧ t.routes = s.routes ∧
    match s.pos.encPrev with
    | none => t.pos.P = s.pos.P ∧ t.pos.Hw = s.pos.Hw ∧ t.pos.sub = s.pos.sub ∧ t.pos.invalid = s.pos.invalid
    | some prev =>
      if (prev, (a, b)) ∈ forwardMoves then
        t.pos.invalid = s.pos.invalid ∧
        if (s.params.encDiv : Int) ≤ s.pos.sub + 1 then
          t.pos.sub = 0 ∧ t.pos.P = s.pos.P + 1 ∧ t.pos.Hw = (if s.pos.P = s.pos.Hw then s.pos.P + 1 else s.pos.Hw)
        else t.pos.sub = s.pos.sub + 1 ∧ t.pos.P = s.pos.P ∧ t.pos.Hw = s.pos.Hw
      else if ((a, b), prev) ∈ forwardMoves then
        t.pos.invalid = s.pos.invalid ∧
        if s.pos.sub - 1 ≤ -(s.params.encDiv : Int) then
          t.pos.sub = 0 ∧ t.pos.P = s.pos.P - 1 ∧ t.pos.Hw = s.pos.Hw
        else t.pos.sub = s.pos.sub - 1 ∧ t.pos.P = s.pos.P ∧ t.pos.Hw = s.pos.Hw
      else
        t.pos.P = s.pos.P ∧ t.pos.Hw = s.pos.Hw ∧ t.pos.sub = s.pos.sub ∧
        if prev = (a, b) then t.pos.invalid = s.pos.invalid ∧ t.counters = s.counters
        else t.pos.invalid = min 255 (s.pos.invalid + 1) ∧ t.counters = counted .encoderError none none s

/-- What an encoder sample leaves behind besides P: a change of P runs the tag's expiry, the overdue notices, the jam test, each
record's divert test front first, claims, exits, the merge and the grants (the order is log 7's); an invalid sample counts and,
above 4 in a running node, halts it with cause ENCODER.
That the samples stand as commands is log 1's. -/
def Obligations.MovesRunEveryTest : Prop :=
  ∀ (s : State) (a b : Bool) (prev : Bool × Bool), s.pos.encPrev = some prev →
    let kept := { s.pos with encPrev := some (a, b) }
    ((prev, (a, b)) ∈ forwardMoves →
      ((s.params.encDiv : Int) ≤ s.pos.sub + 1 → exec (.encoderTransition a b) s = .next
        (afterMove { s with pos := { kept with
          sub := 0, P := s.pos.P + 1, Hw := if s.pos.P = s.pos.Hw then s.pos.P + 1 else s.pos.Hw } }).finish) ∧
      (s.pos.sub + 1 < (s.params.encDiv : Int) →
        exec (.encoderTransition a b) s = .next { s with pos := { kept with sub := s.pos.sub + 1 } }.finish)) ∧
    (((a, b), prev) ∈ forwardMoves →
      (s.pos.sub - 1 ≤ -(s.params.encDiv : Int) → exec (.encoderTransition a b) s = .next
        (afterMove { s with pos := { kept with sub := 0, P := s.pos.P - 1 } }).finish) ∧
      (-(s.params.encDiv : Int) < s.pos.sub - 1 →
        exec (.encoderTransition a b) s = .next { s with pos := { kept with sub := s.pos.sub - 1 } }.finish)) ∧
    (prev = (a, b) → exec (.encoderTransition a b) s = .next s.finish) ∧
    (prev.1 ≠ a → prev.2 ≠ b →
      let n := min 255 (s.pos.invalid + 1)
      let x := { s with pos := { kept with invalid := n }, counters := counted .encoderError none none s }
      (s.node.state = .run → 4 < n → exec (.encoderTransition a b) s = .next ((x.enterHalt .encoder).reTest).finish) ∧
      (s.node.state ≠ .run ∨ n ≤ 4 → exec (.encoderTransition a b) s = .next x.finish))

/-- A speed sample: S, the compensations from it and from the length of the window that produced it, the stall accumulator, the
invalid count and the next window, driven so far where the belt runs; P, Hw and the sub-count stay. STALL halts the node; then
every ARMED record's fire target is set anew and the ARMED records are tested, front first, then claims, merges and grants.
That a window's drive is tested at the end of each event is log 19's reading. -/
def Obligations.SpeedSampleMeasuresTheBelt : Prop :=
  ∀ s : State, ∃ t, exec .speedSample s = .next t ∧
    t.pos.S = max (-32767) (min 32767 (dist s.pos.windowStart s.pos.P)) ∧
    (∀ k, (t.pos.comp.get k : Int) =
      if t.pos.S ≤ 0 then 0
      else min 1023 ((t.pos.S * (s.params.bay.get k).latency + s.pos.windowLen / 2) / s.pos.windowLen)) ∧
    t.pos.stall =
      (if s.pos.windowDriven = true ∧ t.pos.S = 0 ∧ s.pos.stall + s.pos.windowLen < s.params.stallMs then
        s.pos.stall + s.pos.windowLen
      else 0) ∧
    t.pos.invalid = 0 ∧ t.pos.windowStart = s.pos.P ∧ t.pos.windowLen = s.params.speedWin ∧
    t.pos.windowTimer = some s.params.speedWin ∧
    t.pos.P = s.pos.P ∧ t.pos.Hw = s.pos.Hw ∧ t.pos.sub = s.pos.sub ∧ t.pos.encPrev = s.pos.encPrev ∧
    (s.node.state = .run →
      (s.pos.windowDriven = true ∧ t.pos.S = 0 ∧ s.params.stallMs ≤ s.pos.stall + s.pos.windowLen →
        t.node.state = .halt ∧ t.node.cause = .stall) ∧
      (¬ (s.pos.windowDriven = true ∧ t.pos.S = 0 ∧ s.params.stallMs ≤ s.pos.stall + s.pos.windowLen) → t.node = s.node)) ∧
    (s.node.state ≠ .run → t.node = s.node) ∧
    t.time = s.time ∧ t.eyes = s.eyes ∧ t.params = s.params ∧ t.routes = s.routes ∧ t.expected = s.expected ∧
    t.pos.windowDriven = (decide (t.node.state = .run) && !t.credit.exitHold) ∧
    let x := { s with pos := { s.pos with
      S := t.pos.S, comp := t.pos.comp, stall := t.pos.stall, invalid := 0, windowStart := s.pos.P
      windowLen := s.params.speedWin, windowTimer := some s.params.speedWin, windowDriven := true } }
    let y := if s.pos.windowDriven = true ∧ t.pos.S = 0 ∧ s.params.stallMs ≤ s.pos.stall + s.pos.windowLen then
      x.enterHalt .stall else x
    let z := { y with zone := y.zone.map (aimed t.pos.comp) }
    t = (((List.range z.zone.length).foldl (fun u n => armedAt n u) z).claims.reTest).finish

/-- Every eye's edge is accepted and taken once: an edge event that waits leaves the eye as its acceptance set it; where none waits
the command is the acceptance too: the filtered state takes the value, the count returns to 0 and the blocked-since values are set
from P and the tick count or become absent, the jam position following the entry eye, whatever the owner then does. A direction
that is not the eye's next has no edge. P, Hw, the parameters and the route table stay.
That an edge command accepts where no event waits, and changes nothing where it names no edge, is log 4's choice, and that the jam
position is fixed at the edge log 16's reading. -/
def Obligations.EyeEdgesAreAcceptedOnce : Prop :=
  ∀ (i : EyeId) (b : Bool) (s : State),
    (noEdge i b s → exec (edgeOf i b) s = .next s) ∧
    (¬ noEdge i b s → ∃ e u, edgeTaken i b s e u) ∧
    (∀ e u, edgeTaken i b s e u →
      ∃ t, exec (edgeOf i b) s = .next t ∧
        (∀ w, (s.eyes.get i).waiting = e :: w → t.eyes.get i = { s.eyes.get i with waiting := w } ∧ t.jamAt = s.jamAt) ∧
        ((s.eyes.get i).waiting = [] →
          t.eyes.get i = changedEye b [] s ∧ t.jamAt = if i = .entry then jamOf b s else s.jamAt) ∧
        (∀ j, j ≠ i → t.eyes.get j = s.eyes.get j) ∧
        t.pos = { s.pos with windowDriven := t.pos.windowDriven } ∧ t.time = s.time ∧ t.params = s.params ∧
        t.routes = s.routes ∧ t.node = s.node ∧ t.inputs = s.inputs ∧ t.pending = s.pending)

/-- A millisecond tick counts every running timer down, starts the speed window and the credit refresh at the first tick after a
reset, and adds the millisecond events to the counters; with every fifth tick a period of the lamp outputs begins, which shows the
levels of that moment; no record, list or register of another block changes. A lamp at level n is on for the first
(9 - n) x 0.625 ms of its period.
The place of the lamp period against the ticks is log 18's choice. -/
def Obligations.MillisecondTickCountsTimersAndWaits : Prop :=
  ∀ s : State, ∃ x t : State, exec .millisecondTick s = .next t ∧ t = x.finish ∧
    x = { s with time := x.time, pos := x.pos, spurs := x.spurs, bays := x.bays, lamps := x.lamps, credit := x.credit,
                 counters := x.counters } ∧
    x.lamps = (if 5 ≤ s.lamps.phase + 1 then ⟨0, s.bays.map Bay.lamp⟩ else ⟨s.lamps.phase + 1, s.lamps.shown⟩) ∧
    (∀ k, let n := s.lamps.shown.get k
      s.outputs.duty.get k = (if n = 0 then 0 else 9 - n) ∧
      (s.outputs.lamp.get k = true ↔ 1 ≤ n ∧ n ≤ 8 ∧ 250 * (4 * s.lamps.phase + s.time.quarter) < 625 * (9 - n))) ∧
    x.time = { s.time with ticks := s.time.ticks + 1 } ∧
    (∀ k, x.bays.get k = { s.bays.get k with
      chuteJam := (s.bays.get k).chuteJam.map (· - 1), paddle := (s.bays.get k).paddle.map (· - 1),
      lampTimer := (s.bays.get k).lampTimer.map (· - 1), chime := (s.bays.get k).chime.map (· - 1) }) ∧
    (∀ i, x.spurs.get i = { s.spurs.get i with
      gateTimer := (s.spurs.get i).gateTimer.map (· - 1), releaseTimer := (s.spurs.get i).releaseTimer.map (· - 1) }) ∧
    x.credit = { s.credit with
      refresh := match s.credit.refresh with | none => some 50 | some n => some (n - 1) } ∧
    x.pos = { s.pos with
      windowTimer := (match s.pos.windowTimer with | none => some s.params.speedWin | some n => some (n - 1))
      windowLen := if s.pos.windowTimer = none then s.params.speedWin else s.pos.windowLen
      windowDriven := if s.pos.windowTimer = none then decide (s.node.state = .run) && !s.credit.exitHold
        else s.pos.windowDriven } ∧
    x.counters = s.counters.map fun c => { c with value := min 4294967295 (c.value +
      match c.event with
      | .exitHoldMs => if s.credit.exitHold = true then 1 else 0
      | .mergeWaitMs =>
        if (Ix.all.any fun i => c.qualMask.getLsbD i.toNat && decide ((s.spurs.get i).st = .waiting) &&
            (s.spurs.get i).list.head?.any fun r => c.classMask.getLsbD (classBit r.ident.cls)) = true then 1 else 0
      | .zoneOccupancy => (s.zone.filter fun r => c.classMask.getLsbD (classBit r.ident.cls)).length
      | .landingOccupancy =>
        ((Ix.all.filter fun k => c.qualMask.getLsbD k.toNat).map fun k =>
          ((s.bays.get k).landing.filter fun r => c.classMask.getLsbD (classBit r.cls)).length).sum
      | _ => 0) }

/-- A paddle or chime output is on while its timer is active, a gate output while its pulse timer is and its spur is GRANTED. The
expiry commands act once their timer's last tick has been taken, and change nothing else: paddle, gate and chime outputs go off,
the lamp steps, a lane blocked so long is BLOCKED with its report, a stuck spur is taken out of service, a CREDIT frame is
requested. A timer that was stopped or restarted first has no expiry: the command changes nothing.
That a command stands for the expiry of a timer whose last tick has gone is log 5's reading. -/
def Obligations.TimerExpiriesActAsTheirOwnersSay : Prop :=
  ∀ s : State,
    (∀ k, s.outputs.pad.get k = (s.bays.get k).paddle.isSome ∧ s.outputs.chime.get k = (s.bays.get k).chime.isSome) ∧
    (∀ i, s.outputs.gate.get i = (granting (s.spurs.get i).st && (s.spurs.get i).gateTimer.isSome)) ∧
    (∀ k, (s.bays.get k).paddle = some 0 →
      exec (.paddlePulseExpiry k) s = .next (s.modBay k fun b => { b with paddle := none }).finish) ∧
    (∀ k, (s.bays.get k).chime = some 0 →
      exec (.chimeExpiry k) s = .next (s.modBay k fun b => { b with chime := none }).finish) ∧
    (∀ i, (s.spurs.get i).gateTimer = some 0 →
      exec (.gatePulseExpiry i) s = .next (s.modSpur i fun x => { x with gateTimer := none }).finish) ∧
    (∀ k, (s.bays.get k).lampTimer = some 0 →
      exec (.lampStepExpiry k) s = .next (s.modBay k fun b => { b with
        lamp := if 0 < b.rushReady then 1 else if b.lamp < 8 then b.lamp + 1 else b.lamp
        lampTimer := some (1000 * s.params.lampStepS) }).finish) ∧
    (∀ k, (s.bays.get k).chuteJam = some 0 →
      exec (.chuteJamExpiry k) s = .next
        (if (s.bays.get k).blocked = true then s.modBay k fun b => { b with chuteJam := none }
        else (s.modBay k fun b => { b with chuteJam := none, blocked := true }).report .bayBlocked k.toNat 0 0).finish) ∧
    (∀ i g r rest, (s.spurs.get i).st = .granted g → (s.spurs.get i).list = r :: rest →
      (s.spurs.get i).releaseTimer = some 0 →
      exec (.releaseTimerExpiry i) s = .next
        (((match g.decision with
            | .pass => s
            | .land k => s.modBay k fun b => { b with reserved := b.reserved - 1 }).modSpur i fun x =>
              { x with st := .blocked, gateTimer := none, releaseTimer := none }).report
          .spurStuck i.toNat r.ident.tag r.ident.order).reTest.finish) ∧
    exec .creditRefresh s = .next
      { s with credit := { s.credit with waiting := min 16 (s.credit.waiting + 1), refresh := some 50 } }.finish ∧
    (∀ k, (s.bays.get k).paddle ≠ some 0 → exec (.paddlePulseExpiry k) s = .next s) ∧
    (∀ k, (s.bays.get k).chime ≠ some 0 → exec (.chimeExpiry k) s = .next s) ∧
    (∀ i, (s.spurs.get i).gateTimer ≠ some 0 → exec (.gatePulseExpiry i) s = .next s) ∧
    (∀ k, (s.bays.get k).lampTimer ≠ some 0 → exec (.lampStepExpiry k) s = .next s) ∧
    (∀ k, (s.bays.get k).chuteJam ≠ some 0 → exec (.chuteJamExpiry k) s = .next s) ∧
    (∀ i, (s.spurs.get i).releaseTimer ≠ some 0 → exec (.releaseTimerExpiry i) s = .next s)

/-- Six characters at a receiver in AWAIT_START: a valid read becomes the pending tag with TAG_ENABLE 1, one that it replaces is
offered as TAG_OVERRUN; a read whose check byte or tag is bad is offered as CHECK_ERROR. After any of the 0 to 4 bytes collected, a
framing error or a long gap ends the read as bad, and a 02h that broke the gap starts the next. -/
def Obligations.TagReadsBecomeThePendingTag : Prop :=
  ∀ (s : State) (a b c d k : Byte) (g0 : Bool), s.tagPort.rx = .awaitStart →
    let chars := [⟨0x02, false, g0⟩, ⟨a, false, false⟩, ⟨b, false, false⟩, ⟨c, false, false⟩, ⟨d, false, false⟩, ⟨k, false, false⟩]
    let tag : BitVec 32 := a ++ b ++ c ++ d
    let bad : Result := .next { s with counters := counted .checkError none (some 2) s }.finish
    (k = a ^^^ b ^^^ c ^^^ d ∧ tag ≠ 0 → s.params.tagEnable = 1 →
      exec (.tagRead chars) s = .next { s with
        tagPort := ⟨.awaitStart, some ⟨tag, s.pos.P⟩⟩
        counters := if s.tagPort.pending.isSome = true then counted .tagOverrun none none s else s.counters }.finish) ∧
    (k = a ^^^ b ^^^ c ^^^ d ∧ tag ≠ 0 → s.params.tagEnable ≠ 1 → exec (.tagRead chars) s = .next s.finish) ∧
    (¬ (k = a ^^^ b ^^^ c ^^^ d ∧ tag ≠ 0) → exec (.badTagRead chars) s = bad) ∧
    ∀ got : List Byte, got.length ≤ 4 →
      let cut : TagChar → Instr := fun last => .badTagRead (⟨0x02, false, g0⟩ :: got.map (fun x => ⟨x, false, false⟩) ++ [last])
      (∀ x, exec (cut ⟨x, true, false⟩) s = bad) ∧
      (∀ x framing, x ≠ 0x02 ∨ framing = true → exec (cut ⟨x, framing, true⟩) s = bad) ∧
      exec (cut ⟨0x02, false, true⟩) s =
        .next { s with
          tagPort := { s.tagPort with rx := .inRead [] }, counters := counted .checkError none (some 2) s }.finish

/-- E-stop edges: an assertion makes the input ACTIVE and halts a running node with cause E_STOP; a release makes it INACTIVE and
changes no node state; neither is an edge where the input stands so already.
That such a command changes nothing is log 4's choice. -/
def Obligations.EmergencyStopEdges : Prop :=
  ∀ s : State,
    (s.node.estopActive = true → exec .eStopAssertion s = .next s) ∧
    (s.node.estopActive = false → exec .eStopRelease s = .next s) ∧
    (s.node.estopActive = false → s.node.state = .run →
      exec .eStopAssertion s = .next
        (({ s with node := { s.node with estopActive := true, estopCount := 0 } }.enterHalt .eStop).reTest).finish) ∧
    (s.node.estopActive = false → s.node.state ≠ .run →
      exec .eStopAssertion s = .next { s with node := { s.node with estopActive := true, estopCount := 0 } }.finish) ∧
    (s.node.estopActive = true →
      exec .eStopRelease s = .next { s with node := { s.node with estopActive := false, estopCount := 0 } }.finish)

/-- Entering HALT from RUN: state and cause, HALTED reported first, belt-run off, every paddle pulse stopped, and a GRANTED spur
BLOCKED with its grant's reservation released and SPUR_STUCK reported after; the record stays at the front. All else is kept. The
belt's RUN output is on in RUN without exit
hold. -/
def Obligations.EnteringHaltStopsWhatPushes : Prop :=
  (∀ (s : State) (c : HaltCause), s.node.state = .run →
    let t := s.enterHalt c
    t = { s with node := { s.node with state := .halt, cause := c }, bays := t.bays, spurs := t.spurs,
                 reports := t.reports, dropped := t.dropped } ∧
    t.outputs.run = false ∧
    (∀ k, (t.bays.get k).paddle = none ∧
      t.bays.get k = { s.bays.get k with
        paddle := none, reserved := (s.bays.get k).reserved - landGrants k s }) ∧
    (∀ i, t.spurs.get i =
      if granting (s.spurs.get i).st = true then
        { s.spurs.get i with st := .blocked, gateTimer := none, releaseTimer := none }
      else s.spurs.get i) ∧
    (s.reports.length ≤ 12 →
      t.reports = s.reports ++ ⟨.halted, causeCode c, 0, 0⟩ ::
        (Ix.all.filter fun i => granting (s.spurs.get i).st).flatMap fun i =>
          ((s.spurs.get i).list.head?.map fun r => ⟨.spurStuck, byte (3 + i.toNat), r.ident.tag, r.ident.order⟩).toList)) ∧
  (∀ (s : State) (c : HaltCause), s.node.state ≠ .run → s.enterHalt c = s) ∧
  ∀ s : State, s.outputs.run = (decide (s.node.state = .run) && !s.credit.exitHold)

/-! ### Requests -/

/-- Every request kind at this node's address is carried out and answered on its own port: KIND + 80h, the request's TAG, DEST the
request's SRC, SRC this node's address, behind the responses already waiting. Any other kind handed on is refused UNKNOWN_KIND.
That a whole frame's arrival first abandons a frame in progress (frameArrives) is log 10's reading. -/
def Obligations.RequestsAreAnsweredOnTheirPort : Prop :=
  (∀ (q : Request) (s : State), delivered q s →
    (∀ x ∈ requestCommands, exec (x.2 q) s = answer x.1 q (handlerOf x.1 q.payload (s.frameArrives q.port)).2
      (handlerOf x.1 q.payload (s.frameArrives q.port)).1) ∧
    ∀ kind, otherKind kind →
      exec (.unknownKindRequest kind q) s = answer kind q [0x01, kind, 0xFF] (s.frameArrives q.port)) ∧
  ∀ (kind : Byte) (q : Request) (p : List Byte) (s : State),
    let t := s.respond kind q p
    t = { s with lines := t.lines } ∧
    t.lines = s.lines.put q.port { s.lines.get q.port with
      responses := (s.lines.get q.port).responses ++
        [⟨⟨byte (q.src.toNat % 64), byte s.node.address, kind + 0x80, q.tag, p⟩,
          decide (kind = 0x21) && decide (p.head? = some 0x00)⟩] }

/-- A request that finds 4 responses waiting on its port is dropped, not carried out. A broadcast request is dropped on port D; on
port U it is passed on to port D, unanswered, and carried out for HALT, RESUME and ROUTE COMMIT alone. One with LEN above 60 is
abandoned at the receiver.
That the response being sent is none of the 4 is log 22's choice. -/
def Obligations.RequestsWithoutAnAnswer : Prop :=
  ∀ (q : Request) (s : State),
    let s' := s.frameArrives q.port
    let passOn := fun (kind : Byte) (x : State) => x.forward .D ⟨byte (64 * q.spare.toNat + 63), q.src, kind, q.tag, q.payload⟩
    (60 < q.payload.length →
      (∀ x ∈ requestCommands, exec (x.2 q) s = .next (tooLong q.port s').finish) ∧
      ∀ kind, exec (.unknownKindRequest kind q) s = .next (tooLong q.port s').finish) ∧
    (q.payload.length ≤ 60 → q.broadcast = false ∧ 4 ≤ (s.lines.get q.port).responses.length ∨ q.broadcast = true ∧ q.port = .D →
      (∀ x ∈ requestCommands, exec (x.2 q) s = .next (dropped q.port s').finish) ∧
      ∀ kind, otherKind kind → exec (.unknownKindRequest kind q) s = .next (dropped q.port s').finish) ∧
    (q.payload.length ≤ 60 → q.broadcast = true → q.port = .U →
      (∀ x ∈ requestCommands, exec (x.2 q) s = .next
        (if x.1 = 0x1E ∨ x.1 = 0x1F ∨ x.1 = 0x14 then passOn x.1 (handlerOf x.1 q.payload s').1 else passOn x.1 s').finish) ∧
      ∀ kind, otherKind kind → exec (.unknownKindRequest kind q) s = .next (passOn kind s').finish)

/-- Whatever the kind and payload, a response carries a status, and one whose status is not DONE leaves the state as it was; a LEN
that the kind cannot have is refused BAD_LENGTH with the LEN received. -/
def Obligations.RefusedRequestsChangeNothing : Prop :=
  ∀ (kind : Byte) (p : List Byte) (s : State),
    (handlerOf kind p s).2 ≠ [] ∧ ((handlerOf kind p s).2.head? ≠ some 0x00 → (handlerOf kind p s).1 = s) ∧
    (∀ x ∈ fixedLengths, p.length ∉ x.2 → handlerOf x.1 p s = (s, [0x02, byte p.length, 0xFF])) ∧
    (¬ (p.length % 3 = 0 ∧ 3 ≤ p.length ∧ p.length ≤ 60) → handlerOf 0x11 p s = (s, [0x02, byte p.length, 0xFF])) ∧
    (¬ (1 ≤ p.length ∧ p.length ≤ 19) → handlerOf 0x12 p s = (s, [0x02, byte p.length, 0xFF]))

/-- INQUIRE, READ PARAMETERS, ROUTE READ, LIST READ and COUNTER READ change nothing and return the fields of R174. READ PARAMETERS
refuses a LEN outside 1 to 19, and names the first unknown id; ROUTE READ refuses its first bad field, in payload order. LIST READ
returns up to 3 records of the list named from the start index on, each in the 18 bytes of R172, then their exit claim bytes; at or
beyond the list's length it returns none, and a list id above 7 is refused.
That ROUTE READ's NO_SUCH_ITEM names the first index is log 14's reading, and that a grant's flags show in the front record with its
decision and lead follows log 28. -/
def Obligations.ReadsCopyTheState : Prop :=
  (∀ (kind : Byte) (p : List Byte) (s : State), kind ∈ ([0x10, 0x12, 0x15, 0x19, 0x1B] : List Byte) →
    (handlerOf kind p s).1 = s) ∧
  ∀ (q : Request) (s : State), delivered q s →
    let s' := s.frameArrives q.port
    (q.payload = [] → exec (.inquire q) s = answer 0x10 q
      ([0x00, 0x03, 0x30, 0x01, byte s'.node.address, nodeCode s'.node.state, causeCode s'.node.cause,
        if s'.node.estopActive = true then 0x01 else 0x00, s'.routes.generation, byte s'.expected.length, byte s'.zone.length,
        byte (s'.spurs.get .i0).list.length, byte (s'.spurs.get .i1).list.length, byte (s'.spurs.get .i2).list.length,
        byte (s'.bays.get .i0).landing.length, byte (s'.bays.get .i1).landing.length, byte (s'.bays.get .i2).landing.length,
        byte s'.groups.length, byte s'.reports.length]) s') ∧
    (q.payload ≠ [] → q.payload.length ≤ 19 → (∀ id ∈ q.payload, (ParamId.ofByte id).isSome = true) →
      exec (.readParameters q) s = answer 0x12 q
        (0x00 :: q.payload.flatMap fun id =>
          let v := ((ParamId.ofByte id).map s'.params.get).getD 0
          [id, byte (v / 256), byte v]) s') ∧
    (∀ known id after, q.payload = known ++ id :: after → q.payload.length ≤ 19 →
      (∀ x ∈ known, (ParamId.ofByte x).isSome = true) → ParamId.ofByte id = none →
      exec (.readParameters q) s = answer 0x12 q [0x04, id, 0xFF] s') ∧
    (q.payload = [] ∨ 20 ≤ q.payload.length →
      exec (.readParameters q) s = answer 0x12 q [0x02, byte q.payload.length, 0xFF] s') ∧
    (∀ bank first count, q.payload = [bank, first, count] → bank.toNat ≤ 1 → first.toNat ≤ 127 → 1 ≤ count.toNat →
      count.toNat ≤ 28 → s'.routes.active.length = 128 → s'.routes.standby.length = 128 →
      exec (.routeRead q) s = answer 0x15 q
        ([0x00, s'.routes.generation, byte (min count.toNat (128 - first.toNat))] ++
          (((if bank = 0x00 then s'.routes.active else s'.routes.standby).drop first.toNat).take count.toNat).flatMap routeWire)
        s') ∧
    (∀ bank first count, q.payload = [bank, first, count] →
      (2 ≤ bank.toNat → exec (.routeRead q) s = answer 0x15 q [0x04, 0x00, 0xFF] s') ∧
      (bank.toNat ≤ 1 → 128 ≤ first.toNat → exec (.routeRead q) s = answer 0x15 q [0x0A, first, 0xFF] s') ∧
      (bank.toNat ≤ 1 → first.toNat ≤ 127 → count.toNat = 0 ∨ 29 ≤ count.toNat →
        exec (.routeRead q) s = answer 0x15 q [0x04, 0x02, 0xFF] s')) ∧
    (∀ id start, q.payload = [id, start] → 8 ≤ id.toNat → exec (.listRead q) s = answer 0x19 q [0x04, 0x00, 0xFF] s') ∧
    (∀ id start l, q.payload = [id, start] → (readableLists s')[id.toNat]? = some l → start.toNat < l.length →
      exec (.listRead q) s = answer 0x19 q
        ([0x00, byte l.length, byte (min 3 (l.length - start.toNat))] ++
          ((l.drop start.toNat).take 3).flatMap Prod.fst ++ ((l.drop start.toNat).take 3).map Prod.snd) s') ∧
    (∀ id start l, q.payload = [id, start] → (readableLists s')[id.toNat]? = some l → l.length ≤ start.toNat →
      exec (.listRead q) s = answer 0x19 q [0x0A, byte l.length, 0x00] s') ∧
    (q.payload = [] → exec (.counterRead q) s = answer 0x1B q
      (0x00 :: s'.counters.flatMap fun c =>
        [(eventCodes.lookup c.event).getD 0x00, c.classMask, c.qualMask] ++ wire32 (BitVec.ofNat 32 c.value)) s')

/-- SET PARAMETERS: with every pair passing, all are written in order, the sub-count, the pending tag and its expiry follow, and
nothing else changes; else nothing is written and the first failing pair is named: BAD_PARAMETER with its id for an unknown id or a
value outside the range, WRONG_STATE with the state and the id for a CONFIG-class parameter outside CONFIG. The ids, ranges and
classes are those of the table of R176. -/
def Obligations.SetParametersIsAllOrNothing : Prop :=
  (∀ (q : Request) (s : State), delivered q s → q.payload.length % 3 = 0 → q.payload ≠ [] →
    let s' := s.frameArrives q.port
    let ids := (triplesOf q.payload).map Prod.fst
    (pairsPass q.payload s' → ∃ t, exec (.setParameters q) s = answer 0x11 q [0x00] t ∧
      t = { s' with
        params := t.params, pos := { s'.pos with sub := t.pos.sub },
        tagPort := { s'.tagPort with pending := t.tagPort.pending }, counters := t.counters } ∧
      t.params = (triplesOf q.payload).foldl (fun a x => match ParamId.ofByte x.1 with | some id => a.put id x.2 | none => a)
        s'.params ∧
      t.pos.sub = (if 0x01 ∈ ids then 0 else s'.pos.sub) ∧
      ((0x0F, 0) ∈ triplesOf q.payload → t.tagPort.pending = none) ∧
      (0x10 ∉ ids → t.counters = s'.counters) ∧
      (t.tagPort.pending, t.counters) =
        (triplesOf q.payload).foldl (pairOnTag s'.pos.P) (s'.tagPort.pending, s'.counters)) ∧
    (¬ pairsPass q.payload s' → ∃ before x after, triplesOf q.payload = before ++ x :: after ∧
      (∀ y ∈ before, pairPasses y s') ∧ ¬ pairPasses x s' ∧
      ∃ r, exec (.setParameters q) s = answer 0x11 q r s' ∧
        (ParamId.ofByte x.1 = none → r = [0x04, x.1, 0xFF]) ∧
        ∀ id, ParamId.ofByte x.1 = some id →
          (id.valueOk x.2 = false → r = [0x04, x.1, 0xFF]) ∧
          (id.valueOk x.2 = true → r = [0x03, nodeCode s'.node.state, x.1]))) ∧
  (∀ (a : Params) (x y : ParamId) (v : Nat), (a.put x v).get y = if y = x then v else a.get y) ∧
  (∀ p : Params, parameterTable.map (fun r => p.get r.param) = parameterValues p) ∧
  (∀ r ∈ parameterTable, ParamId.ofByte r.id = some r.param ∧ r.param.configClass = r.config ∧
    ∀ v, r.param.valueOk v = true ↔ ∃ x ∈ r.range, x.1 ≤ v ∧ v ≤ x.2) ∧
  (∀ b : Byte, ParamId.ofByte b = none ↔ ∀ r ∈ parameterTable, r.id ≠ b) ∧
  (∀ (a b c : Byte) (p : List Byte), triplesOf (a :: b :: c :: p) = (a, 256 * b.toNat + c.toNat) :: triplesOf p) ∧
  ∀ p : List Byte, p.length < 3 → triplesOf p = []

/-- ROUTE WRITE replaces the named standby entries together and nothing else; a LEN that does not fit the count, a run past entry
127
or one that holds an entry not well formed is refused, in that order, and writes nothing; ROUTE COMMIT copies the standby bank and
advances the generation. A well-formed entry has the two bytes of R172 and is read back from them; nothing else is well formed.
The detail bytes of the refused runs are log 14's reading. -/
def Obligations.RouteTableIsWrittenAndCommitted : Prop :=
  (∀ e : RouteEntry, encodeRoute e = routeWire e ∧ (routeSound e → ∃ x y, routeWire e = [x, y] ∧ decodeRoute x y = some e)) ∧
  (∀ (x y : Byte) (e : RouteEntry), decodeRoute x y = some e →
    routeSound e ∧ (e = .pass ∨ routeWire e = [x, y]) ∧ (x.toNat = 0 ↔ e = .pass)) ∧
  (∀ y : Byte, decodeRoute 0x00 y = some .pass) ∧
  ∀ (q : Request) (s : State), delivered q s →
    let s' := s.frameArrives q.port
    let fits := fun (first : Nat) (es : List Byte) (j : Nat) => ∃ x y e, es[2 * j]? = some x ∧ es[2 * j + 1]? = some y ∧
      decodeRoute x y = some e ∧ (first + j = 0 → e = .pass)
    (∀ first count es, q.payload = first :: count :: es → es.length = 2 * count.toNat → 1 ≤ count.toNat → count.toNat ≤ 28 →
      first.toNat + count.toNat ≤ 128 → (∀ j, j < count.toNat → fits first.toNat es j) → s'.routes.standby.length = 128 →
      ∃ bank : List RouteEntry, exec (.routeWrite q) s = answer 0x13 q [0x00, s'.routes.generation]
          { s' with routes := { s'.routes with standby := bank } } ∧
        bank.length = 128 ∧
        (∀ j x y, j < count.toNat → es[2 * j]? = some x → es[2 * j + 1]? = some y → bank[first.toNat + j]? = decodeRoute x y) ∧
        ∀ n, n < first.toNat ∨ first.toNat + count.toNat ≤ n → bank[n]? = s'.routes.standby[n]?) ∧
    ((∀ first count es, q.payload = first :: count :: es → es.length = 2 * count.toNat → 1 ≤ count.toNat →
        count.toNat ≤ 28 → False) →
      exec (.routeWrite q) s = answer 0x13 q [0x02, byte q.payload.length, 0xFF] s') ∧
    (∀ first count es, q.payload = first :: count :: es → es.length = 2 * count.toNat → 1 ≤ count.toNat → count.toNat ≤ 28 →
      129 ≤ first.toNat + count.toNat → exec (.routeWrite q) s = answer 0x13 q [0x0A, first, 0xFF] s') ∧
    (∀ first count es j, q.payload = first :: count :: es → es.length = 2 * count.toNat → 1 ≤ count.toNat → count.toNat ≤ 28 →
      first.toNat + count.toNat ≤ 128 → j < count.toNat → (∀ i, i < j → fits first.toNat es i) → ¬ fits first.toNat es j →
      exec (.routeWrite q) s = answer 0x13 q [0x04, byte (first.toNat + j), 0xFF] s') ∧
    (q.payload = [] → exec (.routeCommit q) s = answer 0x14 q [0x00, s'.routes.generation + 1]
      { s' with routes := ⟨s'.routes.standby, s'.routes.standby, s'.routes.generation + 1⟩ })

/-- SPUR NOTICE appends the announced record at the back of the spur's list where the spur can take it; SPUR RESTORE returns a
BLOCKED spur to WAITING by a blocked gate eye, and drops its front record as SPUR_LOST by a clear one; each refuses by name, and a
SPUR NOTICE of a LEN that does not fit its group bit as BAD_LENGTH. -/
def Obligations.SpurRequestsAnnounceAndRestore : Prop :=
  ∀ (q : Request) (s : State), delivered q s →
    let s' := s.frameArrives q.port
    (∀ sp d i, decodeSpurNotice s'.node.address q.payload = some (sp, d) → sp.toNat = i.toNat → spurTakes i d s' →
      exec (.spurNotice q) s = answer 0x16 q [0x00, byte ((s'.spurs.get i).list.length + 1)]
        (s'.modSpur i fun x => { x with list := x.list ++ [⟨d, .announced, false⟩] })) ∧
    (∀ sp d i, decodeSpurNotice s'.node.address q.payload = some (sp, d) → sp.toNat = i.toNat →
      (s'.node.state = .config ∨ (s'.params.spur.get i).enable ≠ 1 →
        exec (.spurNotice q) s = answer 0x16 q [0x03, nodeCode s'.node.state, 0xFF] s') ∧
      (s'.node.state ≠ .config → (s'.params.spur.get i).enable = 1 → 6 ≤ (s'.spurs.get i).list.length →
        exec (.spurNotice q) s = answer 0x16 q [0x06, byte i.toNat, 0xFF] s') ∧
      (s'.node.state ≠ .config → (s'.params.spur.get i).enable = 1 → (s'.spurs.get i).list.length < 6 → ¬ spurTakes i d s' →
        exec (.spurNotice q) s = answer 0x16 q [0x07, byte i.toNat, 0xFF] s')) ∧
    (∀ attr, q.payload[9]? = some attr →
      q.payload.length = 10 ∧ attr.getLsbD 2 = true ∨ q.payload.length = 13 ∧ attr.getLsbD 2 = false →
      exec (.spurNotice q) s = answer 0x16 q [0x02, byte q.payload.length, 0xFF] s') ∧
    (∀ sp d, decodeSpurNotice s'.node.address q.payload = some (sp, d) → 3 ≤ sp.toNat →
      exec (.spurNotice q) s = answer 0x16 q [0x0A, sp, 0xFF] s') ∧
    (∀ sp i, q.payload = [sp] → sp.toNat = i.toNat → (s'.spurs.get i).st = .blocked →
      ((s'.eyes.gate.get i).blocked = true →
        let t := (s'.modSpur i fun x => { x with st := .waiting }).reTest
        exec (.spurRestore q) s = answer 0x17 q [0x00, spurCode (t.spurs.get i).st] t) ∧
      ((s'.eyes.gate.get i).blocked = false → ∀ r rest, (s'.spurs.get i).list = r :: rest →
        exec (.spurRestore q) s = answer 0x17 q [0x00, 0x00]
          ((s'.modSpur i fun x => { x with st := .empty, list := rest }).report .spurLost (3 + i.toNat) r.ident.tag
            r.ident.order))) ∧
    (∀ sp i, q.payload = [sp] → sp.toNat = i.toNat → (s'.spurs.get i).st ≠ .blocked →
      exec (.spurRestore q) s = answer 0x17 q [0x03, nodeCode s'.node.state, 0xFF] s') ∧
    (∀ sp, q.payload = [sp] → 3 ≤ sp.toNat → exec (.spurRestore q) s = answer 0x17 q [0x0A, sp, 0xFF] s')

/-- BAY CLEAR removes n records from the front, or all, one by one, each TAKEN with detail 3 + k where REPORT_LANDINGS is 1 and then
handed to the Assembly Unit unless it is UNEXPECTED; the response carries how many. The bay's BLOCKED condition, chute jam timer and
reserved count, the other lanes and the zone side stay.
The offset in the refusal is log 24's reading. -/
def Obligations.BayClearTakesRecordsFromTheFront : Prop :=
  ∀ (q : Request) (s : State), delivered q s →
    let s' := s.frameArrives q.port
    (∀ b n k, q.payload = [b, n] → b.toNat = k.toNat → n.toNat ≤ 8 →
      let m := if n.toNat = 0 then (s'.bays.get k).landing.length else min n.toNat (s'.bays.get k).landing.length
      ∃ t, exec (.bayClear q) s = answer 0x18 q [0x00, byte m] t ∧
        t = removeRepeatedly k m s' ∧
        t = { s' with bays := t.bays, groups := t.groups, reports := t.reports, dropped := t.dropped } ∧
        (t.bays.get k).landing = (s'.bays.get k).landing.drop m ∧
        (∀ j, (t.bays.get j).blocked = (s'.bays.get j).blocked ∧ (t.bays.get j).chuteJam = (s'.bays.get j).chuteJam ∧
          (t.bays.get j).reserved = (s'.bays.get j).reserved ∧ (t.bays.get j).paddle = (s'.bays.get j).paddle ∧
          (t.bays.get j).chime = (s'.bays.get j).chime) ∧
        ∀ j, j ≠ k → t.bays.get j = s'.bays.get j) ∧
    (∀ b n, q.payload = [b, n] → 3 ≤ b.toNat → exec (.bayClear q) s = answer 0x18 q [0x0A, b, 0xFF] s') ∧
    (∀ b n, q.payload = [b, n] → b.toNat ≤ 2 → 9 ≤ n.toNat → exec (.bayClear q) s = answer 0x18 q [0x04, 0x01, 0xFF] s')

/-- An event adds 1 to each counter that names it and lets its class and qualifier pass, up to the ceiling; COUNTER SETUP gives the
named counter the event of its code in R181 and its masks with value 0, refusing the first bad field; COUNTER CLEAR zeroes the
named counters and keeps
their events and masks.
The offset in COUNTER CLEAR's refusal is log 24's reading. -/
def Obligations.CountersAreSetUpAndCleared : Prop :=
  (∀ (e : EventCode) (k : Option Cls) (q : Option Nat) (c : Counter),
    let passes := c.event = e ∧ e ≠ .none ∧ (∀ x, k = some x → c.classMask.getLsbD (classBit x) = true) ∧
      ∀ x, q = some x → c.qualMask.getLsbD x = true
    (passes → Counter.offered e k q c = { c with value := min 4294967295 (c.value + 1) }) ∧
      (¬ passes → Counter.offered e k q c = c)) ∧
  (∀ (e : EventCode) (k : Option Cls) (q : Option Nat) (s : State), s.offer e k q = { s with counters := counted e k q s }) ∧
  ∀ (q : Request) (s : State), delivered q s →
    let s' := s.frameArrives q.port
    (∀ n e cm qm, q.payload = [n, e, cm, qm] →
      (n.toNat ≤ 3 → ∀ ev, (ev, e) ∈ eventCodes → cm.toNat ≤ 3 → qm.toNat ≤ 15 →
        exec (.counterSetup q) s = answer 0x1A q [0x00] { s' with counters := s'.counters.set n.toNat ⟨ev, cm, qm, 0⟩ }) ∧
      (4 ≤ n.toNat → exec (.counterSetup q) s = answer 0x1A q [0x0A, n, 0xFF] s') ∧
      (n.toNat ≤ 3 → 0x12 ≤ e.toNat → exec (.counterSetup q) s = answer 0x1A q [0x04, 0x01, 0xFF] s') ∧
      (n.toNat ≤ 3 → e.toNat ≤ 0x11 → 4 ≤ cm.toNat → exec (.counterSetup q) s = answer 0x1A q [0x04, 0x02, 0xFF] s') ∧
      (n.toNat ≤ 3 → e.toNat ≤ 0x11 → cm.toNat ≤ 3 → 16 ≤ qm.toNat →
        exec (.counterSetup q) s = answer 0x1A q [0x04, 0x03, 0xFF] s')) ∧
    (∀ mask, q.payload = [mask] → mask.toNat ≤ 15 →
      ∃ t, exec (.counterClear q) s = answer 0x1C q [0x00] t ∧ t = { s' with counters := t.counters } ∧
        t.counters.length = s'.counters.length ∧
        ∀ n c, s'.counters[n]? = some c →
          t.counters[n]? = some (if mask.getLsbD n = true then { c with value := 0 } else c)) ∧
    (∀ mask, q.payload = [mask] → 16 ≤ mask.toNat → exec (.counterClear q) s = answer 0x1C q [0x04, 0x00, 0xFF] s')

/-- The START check names the first test of C1 to C9 that fails, in their order and within one by spur and bay: the test named fails
for the bay and spur named and all tests before it hold. It names none exactly when all hold. -/
def Obligations.SetupConstraintsAreTested : Prop :=
  ∀ p : Params,
    (p.setupFault = none ↔
      p.holdPoint < p.zoneExit ∧ p.lenLarge < p.jamLen ∧ p.lenSmall ≤ p.lenLarge ∧ p.upLimit ≤ p.zoneBudget ∧
      (∀ k, 1 ≤ (p.bay.get k).cap → (p.bay.get k).rush < (p.bay.get k).cap) ∧
      (∀ k, 1 ≤ (p.bay.get k).cap → (p.bay.get k).offset + p.lenLarge + (p.bay.get k).confirm < p.holdPoint) ∧
      (∀ i, (p.spur.get i).enable = 1 → (p.spur.get i).merge ≥ (p.spur.get i).adj + (p.lenLarge + p.gap)) ∧
      (∀ i k, (p.spur.get i).enable = 1 → 1 ≤ (p.bay.get k).cap →
        (p.spur.get i).merge + p.lenLarge + p.gap < (p.bay.get k).offset) ∧
      (∀ i, (p.spur.get i).enable = 1 → (p.spur.get i).merge + p.lenLarge < p.holdPoint)) ∧
    (∀ f, p.setupFault = some f ↔
      ∃ before after, setupOrder = before ++ f :: after ∧ ¬ setupHolds p f ∧ ∀ g ∈ before, setupHolds p g) ∧
    ∀ f, p.setupFault = some f →
      (f.constraint = 5 ∨ f.constraint = 6 ↔ f.bay.isSome = true ∧ f.spur = none) ∧
      (f.constraint = 7 ∨ f.constraint = 9 ↔ f.spur.isSome = true ∧ f.bay = none) ∧
      (f.constraint = 8 ↔ f.spur.isSome = true ∧ f.bay.isSome = true)

/-- START from CONFIG with the emergency stop inactive and every constraint holding: RUN, arbitration set anew, SYNC with o = 0,
then
the grants; it refuses by name, in order, and then changes nothing. -/
def Obligations.StartTakesTheNodeIntoRun : Prop :=
  ∀ (q : Request) (s : State), delivered q s → q.payload = [] →
    let s' := s.frameArrives q.port
    (s'.node.state = .config → s'.node.estopActive = false → s'.params.setupFault = none →
      exec (.start q) s = answer 0x1D q [0x00, 0x01]
        ({ s' with
          node := { s'.node with state := .run, cause := .none }
          spurs := s'.spurs.map fun (x : Spur) => { x with passedOver := 0 }
          lastWinner := .i2
          credit := { s'.credit with mode := .sync, o := 0 } }).reTest) ∧
    (s'.node.state ≠ .config → exec (.start q) s = answer 0x1D q [0x03, nodeCode s'.node.state, 0xFF] s') ∧
    (s'.node.state = .config → s'.node.estopActive = true → exec (.start q) s = answer 0x1D q [0x09, 0xFF, 0xFF] s') ∧
    (∀ f, s'.node.state = .config → s'.node.estopActive = false → s'.params.setupFault = some f →
      exec (.start q) s = answer 0x1D q [0x05, byte f.constraint, byte (16 * (f.spur.elim 15 Ix.toNat) + f.bay.elim 15 Ix.toNat)]
        s')

/-- HALT and RESUME requests: HALT in RUN enters HALT with cause REQUEST, in HALT is done without effect, in CONFIG is refused;
RESUME in HALT returns to RUN with RESUMED reported where neither cause is present, and is refused CAUSE_PRESENT otherwise. -/
def Obligations.HaltAndResumeRequests : Prop :=
  ∀ (q : Request) (s : State), delivered q s → q.payload = [] →
    let s' := s.frameArrives q.port
    let present := (if s'.node.estopActive = true then 1 else 0) + (if s'.eyes.entry.blocked = true then 2 else 0)
    (s'.node.state = .run → exec (.halt q) s = answer 0x1E q [0x00, 0x02] (s'.enterHalt .request).reTest) ∧
    (s'.node.state = .halt → exec (.halt q) s = answer 0x1E q [0x00, 0x02] s') ∧
    (s'.node.state = .config → exec (.halt q) s = answer 0x1E q [0x03, 0x00, 0xFF] s') ∧
    (s'.node.state = .halt → present = 0 →
      exec (.resume q) s = answer 0x1F q [0x00, 0x01]
        (({ s' with node := { s'.node with state := .run, cause := .none } }).report .resumed 0 0 0).reTest) ∧
    (s'.node.state = .halt → present ≠ 0 → exec (.resume q) s = answer 0x1F q [0x08, byte present, 0xFF] s') ∧
    (s'.node.state ≠ .halt → exec (.resume q) s = answer 0x1F q [0x03, nodeCode s'.node.state, 0xFF] s')

/-- CONFIG entry empties the zone side, reports DISCARDED with the number of records, returns both credit sides to no credit and
turns paddles and gates off; the bay side, routes, parameters, position and counters stay. In CONFIG the request is done without
effect. NODE RESET is answered with the state before the reset. -/
def Obligations.ConfigEntryEmptiesTheZoneSide : Prop :=
  ∀ (q : Request) (s : State), delivered q s → q.payload = [] →
    let s' := s.frameArrives q.port
    (s'.node.state ≠ .config → ∃ t, exec (.config q) s = answer 0x20 q [0x00, 0x00] t ∧
      t = ({ s' with
        expected := [], zone := [],
        spurs := s'.spurs.map fun (x : Spur) => { x with st := .empty, list := [], gateTimer := none, releaseTimer := none },
        bays := s'.bays.map fun (b : Bay) => { b with reserved := 0, paddle := none },
        credit := { s'.credit with mode := .sync, o := 0, G := s'.credit.s, unsynced := true, exitHold := false },
        node := { s'.node with state := .config, cause := .none } }).report .discarded
          (s'.expected.length + s'.zone.length) 0 0 ∧
      t.budget = 0 ∧ viewOf t.credit = 0 ∧ t.outputs.run = false ∧ t.outputs.pad = .const false ∧ t.outputs.gate = .const false) ∧
    (s'.node.state = .config → exec (.config q) s = answer 0x20 q [0x00, 0x00] s') ∧
    exec (.nodeReset q) s = answer 0x21 q [0x00, nodeCode s'.node.state] s'

/-! ### Credits, notices, claims and exits -/

/-- A NOTICE: in SYNC it uses a credit or is beyond credit and fixes the count; in LOCKED it is stale, skips a gap, or overdraws; a
notice that is not stale goes on to the Tracker, then merges and grants. One whose LEN does not fit its group bit is dropped, and
one
with LEN above 60 abandoned. -/
def Obligations.NoticesAreCountedAgainstTheCredits : Prop :=
  ∀ (p : List Byte) (s : State),
    let s' := s.frameArrives .U
    (decodeNotice p = none ↔ ¬ noticeFits p) ∧
    (60 < p.length → exec (.notice p) s = .next (tooLong .U s').finish) ∧
    (p.length ≤ 60 → decodeNotice p = none → exec (.notice p) s = .next (dropped .U s').finish) ∧
    (∃ t, exec (.notice p) s = .next t) ∧
    ∀ q i, decodeNotice p = some (q, i) →
      (s'.credit.mode = .sync →
        exec (.notice p) s = .next ((({ (if s'.credit.o = 0 then s'.report .noticeBeyondCredit 0 i.tag i.order else s') with
          credit := { s'.credit with
            mode := .locked, o := s'.credit.o - 1, r := q + 1, g := q + 1 + BitVec.ofNat 8 (s'.credit.o - 1) } }).trackNotice
          i).reTest).finish) ∧
      (s'.credit.mode = .locked →
        let gap := (q - s'.credit.r).toNat
        let left := (s'.credit.g - (q + 1)).toNat
        let x := if gap = 0 then s' else s'.report .noticeGap gap i.tag i.order
        (128 ≤ gap →
          exec (.notice p) s = .next (s'.report .noticeStale (s'.credit.r - q).toNat i.tag i.order).finish) ∧
        (gap < 128 → left < 128 →
          exec (.notice p) s = .next
            ((({ x with credit := { s'.credit with r := q + 1, o := left } }).trackNotice i).reTest).finish) ∧
        (gap < 128 → 128 ≤ left →
          exec (.notice p) s = .next
            ((({ x.report .noticeBeyondCredit 1 i.tag i.order with
              credit := { s'.credit with r := q + 1, g := q + 1, o := 0 } }).trackNotice i).reTest).finish))

/-- The Tracker refuses a notice in CONFIG, with 16 waiting or with its tag announced already, in that order; else it joins the back
of the expected list with Pa = P. Overdue records then leave from the front as MISSING, and the first that is not stays. -/
def Obligations.TrackerAdmitsNoticesAndDropsOverdueOnes : Prop :=
  (∀ (s : State) (i : Ident),
    let known := i.tag ≠ 0 ∧ ((∃ n ∈ s.expected, n.ident.tag = i.tag) ∨ ∃ j, ∃ r ∈ (s.spurs.get j).list, r.ident.tag = i.tag)
    let full := 16 ≤ s.expected.length
    (s.node.state = .config → s.trackNotice i = s.report .noticeRefused 1 i.tag i.order) ∧
    (s.node.state ≠ .config → full → s.trackNotice i = s.report .noticeRefused 2 i.tag i.order) ∧
    (s.node.state ≠ .config → ¬ full → known → s.trackNotice i = s.report .noticeRefused 3 i.tag i.order) ∧
    (s.node.state ≠ .config → ¬ full → ¬ known →
      s.trackNotice i = ({ s with expected := s.expected ++ [Notice.mk i s.pos.P] }).dropOverdue)) ∧
  ∀ s : State,
    let t := s.dropOverdue
    ∃ late : List Notice, s.expected = late ++ t.expected ∧
      (∀ n ∈ late, reached s.pos.P (n.pa + BitVec.ofNat 24 s.params.dueDist) = true) ∧
      (∀ n ∈ t.expected.head?, reached s.pos.P (n.pa + BitVec.ofNat 24 s.params.dueDist) = false) ∧
      t = { s with expected := t.expected, reports := t.reports, dropped := t.dropped, counters := t.counters } ∧
      t.counters = late.foldl (fun cs n => cs.map (Counter.offered .missing (some n.ident.cls) none)) s.counters ∧
      (s.reports.length + late.length ≤ 16 →
        t.reports = s.reports ++ late.map fun n => ⟨.missing, 0, n.ident.tag, n.ident.order⟩)

/-- A CREDIT frame sets the exit side's view: SYNC to s + o, LOCKED to g with s resynchronised to r where unsynced is set or the
view
exceeds 16, the latter reported; a view above 16 becomes 0. The held candidate is then tested, and merges and grants follow. -/
def Obligations.CreditFramesSetTheView : Prop :=
  ∀ s : State,
    let s' := s.frameArrives .D
    let c := s'.credit
    (∀ v x, exec (.creditSync v x) s = .next
      (({ s' with credit := { c with G := if 16 < v.toNat then c.s else c.s + v, unsynced := false } }).claims.reTest).finish) ∧
    ∀ g r,
      (c.unsynced = false → (g - c.s).toNat ≤ 16 →
        exec (.creditLocked g r) s = .next (({ s' with credit := { c with G := g } }).claims.reTest).finish) ∧
      (c.unsynced = false → 16 < (g - c.s).toNat →
        exec (.creditLocked g r) s = .next
          (({ s'.report .creditResync (r - c.s).toNat 0 0 with
            credit := { c with G := if 16 < (g - r).toNat then r else g, s := r, unsynced := false } }).claims.reTest).finish) ∧
      (c.unsynced = true →
        exec (.creditLocked g r) s = .next
          (({ s' with credit := { c with G := if 16 < (g - r).toNat then r else g, s := r, unsynced := false } }).claims.reTest).finish)

/-- The grants of an event are single grants of R136 repeated until one of its conditions fails. The tests that follow a change of
their terms (reTest) are the Merge Unit's arbitration first, then these grants, which see the budget sum as it left it (R35). -/
def Obligations.GrantsRepeatUntilAConditionFails : Prop :=
  (∀ (s : State) (n : Nat), s.credit.waiting ≤ 16 → s.params.upLimit ≤ n →
    s.grantCredits = grantRepeatedly n s ∧ grantOnce s.grantCredits = none) ∧
  (∀ s : State, s.budget = budgetSum s) ∧
  ∀ s : State, s.reTest = s.arbitrate.grantCredits

/-- The claims of an event are single claims of R147 in zone-list order, front first, as long as the view lasts; exit hold is then
set exactly where the candidate waits RIDING past its hold point without a view. A held candidate behind whose hold position P has
stepped back stays held without a view, and claims with one, as if it had not. A terminal node claims nothing.
What becomes of that held candidate is log 15's reading. -/
def Obligations.ClaimsAreMadeInZoneOrder : Prop :=
  ∀ s : State,
    (s.params.terminal = 1 → s.claims = { s with credit := { s.credit with exitHold := false } }) ∧
    (s.params.terminal ≠ 1 →
      (s.credit.exitHold = true → ∀ a t b, candidateSplit s.zone = some (a, t, b) → t.track.code = 1 → pastHold s t = true) →
      s.claims = claimed s.zone.length s ∧ claimOnce s.claims = none) ∧
    (s.params.terminal ≠ 1 → s.credit.exitHold = true →
      ∀ a t b, candidateSplit s.zone = some (a, t, b) → t.track.code = 1 → pastHold s t = false →
        (viewOf s.credit = 0 → s.claims = s) ∧
        (1 ≤ viewOf s.credit → s.claims = claimed b.length (claimAt a t b s) ∧ claimOnce s.claims = none))

/-- The front record leaves by the exit: still decided LAND it misses its divert; on a terminal node it is reported EXITED; else a
NOTICE with its claim, or with the next sequence number where it holds none, joins the NOTICE queue or is dropped at 8. An event's
exit tests are the claims, then such exits of front records that have reached their exit position, each followed by the claims,
until the front has not reached its own; those that stay keep their order.
That a held candidate which leaves ends the hold is log 15's reading, that the NOTICE being sent is none of the 8 log 22's
choice. -/
def Obligations.ExitsLeaveFromTheFront : Prop :=
  (∀ (s : State) (t : Tote) (rest : List Tote),
    let s1 := { s with zone := rest, credit := { s.credit with exitHold := s.credit.exitHold && t.claim.isSome } }
    let s2 := match t.decision with | .pass => s1 | .land k => missed 0 k t.ident s1
    let announce := fun (q : Byte) (x : State) =>
      if x.lines.notices.length < 8 then
        { x with lines := { x.lines with
          notices := x.lines.notices ++ [⟨0x3E, byte x.node.address, 0x01, 0x00, noticePayload q t.ident⟩] } }
      else dropped .D x
    (s.params.terminal = 1 →
      s.exitFront t rest = s2.report .exited t.ident.origin t.ident.tag t.ident.order) ∧
    (s.params.terminal ≠ 1 → ∀ q, t.claim = some q → s.exitFront t rest = announce q s2) ∧
    (s.params.terminal ≠ 1 → t.claim = none →
      s.exitFront t rest = announce s2.credit.s { s2 with
        credit := if 16 < (s2.credit.G - (s2.credit.s + 1)).toNat then
            { s2.credit with s := s2.credit.s + 1, G := s2.credit.s + 1 }
          else { s2.credit with s := s2.credit.s + 1 } })) ∧
  ∀ s : State,
    (∀ n, s.zone.length ≤ n → s.exitTests = exitRepeatedly n s.claims) ∧
    (∀ t ∈ s.exitTests.zone.head?, reached s.pos.P (t.lead + BitVec.ofNat 24 s.params.zoneExit) = false) ∧
    ∃ n, s.exitTests.zone.map (fun t => (t.ident, t.lead, t.flags)) = (s.zone.map fun t => (t.ident, t.lead, t.flags)).drop n

/-! ### The entry eye and routes -/

/-- A leading edge at the entry eye: ignored, taken as the same tote, UNTRACKED, or a new record matched by place or by the pending
tag, the records skipped going MISSING, or made for a STRAY. Whether it is honoured is its high-water flag's, and the record's lead
its stamp, both as accepted, whatever P is when the Tracker acts.
The order of the tests after the record is log 7's, that the new front's due test reports after the route decision log 8's, and
that these tests read P as it stands and not the stamp log 31's choice. -/
def Obligations.LeadingEdgesMakeZoneRecords : Prop :=
  ∀ (s : State) (e : Edge) (s' : State), edgeTaken .entry true s e s' →
    let last := s.zone.getLast?.any fun t => t.track.code == 0
    let stray := fun (tag : BitVec 32) (x : State) =>
      (x.report .stray 0 tag 0).offer .stray (some .staged) (some 3)
    let strayTote := fun (tag : BitVec 32) => (⟨tag, 0, 0, .staged, .small, none, s.node.address⟩ : Ident)
    let noTag := { s' with tagPort := { s'.tagPort with pending := none } }
    (¬ honoured e s ∨ last = true → exec .entryEyeBlocked s = .next s'.finish) ∧
    (honoured e s → last = false → 24 ≤ s.zone.length →
      (s.params.tagEnable ≠ 1 → exec .entryEyeBlocked s = .next (s'.report .untracked 0 0 0).finish) ∧
      (s.params.tagEnable = 1 → exec .entryEyeBlocked s = .next
        (noTag.report .untracked 0 ((s.tagPort.pending.map PendingTag.tag).getD 0) 0).finish)) ∧
    (honoured e s → last = false → s.zone.length < 24 → s.params.tagEnable ≠ 1 →
      (∀ n rest, s.expected = n :: rest →
        exec .entryEyeBlocked s = afterEntry e.stamp n.ident false false { s' with expected := rest }) ∧
      (s.expected = [] → exec .entryEyeBlocked s = afterEntry e.stamp (strayTote 0) true false (stray 0 s'))) ∧
    (honoured e s → last = false → s.zone.length < 24 → s.params.tagEnable = 1 →
      (s.tagPort.pending = none → ∀ n rest, s.expected = n :: rest →
        exec .entryEyeBlocked s = afterEntry e.stamp n.ident false true { noTag with expected := rest }) ∧
      (s.tagPort.pending = none → s.expected = [] →
        exec .entryEyeBlocked s = afterEntry e.stamp (strayTote 0) true false (stray 0 noTag)) ∧
      (∀ x, s.tagPort.pending = some x → (∀ n ∈ s.expected, n.ident.tag ≠ x.tag) →
        exec .entryEyeBlocked s = afterEntry e.stamp (strayTote x.tag) true false (stray x.tag noTag)) ∧
      (∀ x skipped n rest, s.tagPort.pending = some x → s.expected = skipped ++ n :: rest → n.ident.tag = x.tag →
        (∀ m ∈ skipped, m.ident.tag ≠ x.tag) →
        exec .entryEyeBlocked s = afterEntry e.stamp n.ident false false
          (skipped.foldl (fun y m => (y.report .missing 1 m.ident.tag m.ident.order).offer .missing (some m.ident.cls) none)
            { noTag with expected := rest })))

/-- A trailing edge measures the ENTERING record at the back: length d(L, stamp) from 1 to 65,535, the stamp being the edge's own,
LENGTH_MISMATCH beyond LEN_TOL, RIDING for PASS and armed and tested for LAND; any other clear edge changes no record.
That the tests after the measurement read P as it stands and not the stamp is log 31's choice. -/
def Obligations.TrailingEdgesMeasureTheTote : Prop :=
  ∀ (s : State) (e : Edge) (s' : State), edgeTaken .entry false s e s' →
    (¬ honoured e s ∨ (s.zone.getLast?.any fun t => t.track.code == 0) = false → exec .entryEyeClear s = .next s'.finish) ∧
    (∀ init t d, honoured e s → s.zone = init ++ [t] → t.track = .entering d →
      let len := (max 1 (min 65535 (dist t.lead e.stamp))).toNat
      let nominal := nominalLength s.params t.ident.size
      let wrong := decide (len + s.params.lenTol < nominal ∨ nominal + s.params.lenTol < len)
      let t1 := { t with flags := { t.flags with lengthMismatch := t.flags.lengthMismatch || wrong } }
      let x := if wrong = true then s'.report .lengthMismatch (if len < nominal then 1 else 2) t.ident.tag t.ident.order else s'
      (d = .pass → exec .entryEyeClear s = .next
        (({ x with zone := init ++ [{ t1 with track := .riding len none }] }).claims.reTest).finish) ∧
      (∀ k, d = .land k →
        let a := x.testDivert { t1 with track := armedFor s t.lead len k }
        exec .entryEyeClear s = .next (({ a.2 with zone := init ++ [a.1] }).claims.reTest).finish))

/-- The route decision: NO_ROUTE for destination 0, the active entry's PASS, group affinity at the lowest bay, the primary before
the
alternate, the greatest free count for BEST, else overflow; and what it leaves behind: a reservation, or its report and event. -/
def Obligations.RouteDecisionsFollowTheTable : Prop :=
  (∀ (s : State) (k : Ix) (c : Cls), s.admitsClass k c = true ↔ admitted s k c) ∧
  (∀ (s : State) (i : Ident),
    let e := s.routes.active.getD i.dest.toNat .pass
    (i.dest = 0 → s.routeChoice i = ⟨.pass, false, true⟩) ∧
    (i.dest ≠ 0 → e = .pass → s.routeChoice i = ⟨.pass, false, false⟩) ∧
    (∀ k, i.dest ≠ 0 → affine s e i k → (∀ j, affine s e i j → k.toNat ≤ j.toNat) →
      s.routeChoice i = ⟨.land k, false, false⟩) ∧
    (i.dest ≠ 0 → (∀ k, ¬ affine s e i k) →
      (∀ p a, e = .land p a → admitted s p i.cls → s.routeChoice i = ⟨.land p, false, false⟩) ∧
      (∀ p a, e = .land p (some a) → ¬ admitted s p i.cls → admitted s a i.cls → s.routeChoice i = ⟨.land a, false, false⟩) ∧
      (∀ m k, e = .best m → m.get k = true → admitted s k i.cls →
        (∀ j, m.get j = true → admitted s j i.cls →
          freePlaces s j < freePlaces s k ∨ freePlaces s j = freePlaces s k ∧ k.toNat ≤ j.toNat) →
        s.routeChoice i = ⟨.land k, false, false⟩) ∧
      (e ≠ .pass → (∀ k, permitted e k → ¬ admitted s k i.cls) → s.routeChoice i = ⟨.pass, true, false⟩))) ∧
  ∀ (s : State) (lead : Pos) (i : Ident) (noRead : Bool) (stray : Bool),
    let o := s.routeChoice i
    let t : Tote := ⟨i, ⟨stray, noRead, false, false, o.overflow, false, o.noRoute⟩, lead, .entering o.decision⟩
    let x := { s with zone := s.zone ++ [t] }
    s.appendEntering lead i stray noRead = (routeLeaves o i stray x).offer .toteEntered (some i.cls) none

/-! ### Diverts, landing lanes and order assembly -/

/-- The tests of an ARMED record in their order: LATE, then HALTED, BLOCKED or the fire at a reached target; and the window end of a
CONFIRMING record. A miss turns the record RIDING, PASS and MISSED and releases its place; a fire starts the paddle pulse. -/
def Obligations.ArmedRecordsFireOrMiss : Prop :=
  ∀ (s : State) (t : Tote),
    (∀ len k b late f, t.track = .armed len k b late f →
      let out := fun (cause : Nat) => ({ t with flags := { t.flags with missed := true }, track := .riding len none }, missed cause k t.ident s)
      (reached s.pos.P late = true → s.testDivert t = out 1) ∧
      (reached s.pos.P late = false → reached s.pos.P f = false → s.testDivert t = (t, s)) ∧
      (reached s.pos.P late = false → reached s.pos.P f = true →
        (s.node.state = .halt → s.testDivert t = out 2) ∧
        (s.node.state = .run → (s.bays.get k).blocked = true → s.testDivert t = out 4) ∧
        (s.node.state = .run → (s.bays.get k).blocked = false →
          s.testDivert t =
            ({ t with track := .confirming len k b s.pos.P (s.pos.P + BitVec.ofNat 24 (s.params.bay.get k).confirm) },
              s.modBay k fun x => { x with paddle := some (s.params.bay.get k).pulse })))) ∧
    (∀ len k b pf w, t.track = .confirming len k b pf w →
      (reached s.pos.P w = true → s.testDivert t =
        ({ t with flags := { t.flags with missed := true }, track := .riding len none }, missed 3 k t.ident s)) ∧
      (reached s.pos.P w = false → s.testDivert t = (t, s))) ∧
    (t.track.code ≤ 1 → s.testDivert t = (t, s))

/-- A confirm-eye blocked edge: the CONFIRMING record for the bay nearest the front lands, and its landing record is appended and
handed on, or only reported where the lane holds 8; without such a record the landing is UNEXPECTED. The chute jam timer starts
from the eye's blocked-since time.
The exit tests after a landing follow log 7. -/
def Obligations.ConfirmEdgesLandTotes : Prop :=
  ∀ (s : State) (k : Ix) (e : Edge) (u : State), edgeTaken (.confirm k) true s e u →
    let passed := ((u.eyes.confirm.get k).since.map fun x => (s.time.ticks - x.2).toNat).getD 0
    let s' := u.modBay k fun b => { b with chuteJam := some (s.params.chuteJamMs - passed) }
    (∀ a t b, s.zone = a ++ t :: b → confirmingAt k t → (∀ r ∈ a, ¬ confirmingAt k r) →
      let x := ({ s' with zone := a ++ b }).modBay k fun y => { y with reserved := y.reserved - 1 }
      ((s.bays.get k).landing.length < 8 →
        exec (.confirmEyeBlocked k) s = .next
          ((((reportIf .landed k.toNat t.ident.tag t.ident.order
              (x.modBay k fun y => { y with landing := y.landing ++ [landingOf t] })).offer .divertDone (some t.ident.cls)
                (some k.toNat)).assemblyLanding k (landingOf t)).exitTests.reTest).finish) ∧
      (8 ≤ (s.bays.get k).landing.length →
        exec (.confirmEyeBlocked k) s = .next
          (((reportIf .landed (3 + k.toNat) t.ident.tag t.ident.order x).offer .divertDone (some t.ident.cls)
            (some k.toNat)).exitTests.reTest).finish)) ∧
    ((∀ r ∈ s.zone, ¬ confirmingAt k r) →
      ((s.bays.get k).landing.length < 8 →
        exec (.confirmEyeBlocked k) s = .next
          ((s'.modBay k fun b => { b with landing := b.landing ++ [⟨0, 0, .staged, none, true⟩] }).report .unexpectedLanding
            k.toNat 0 0).finish) ∧
      (8 ≤ (s.bays.get k).landing.length →
        exec (.confirmEyeBlocked k) s = .next (s'.report .unexpectedLanding (3 + k.toNat) 0 0).finish))

/-- A confirm-eye clear edge stops the chute jam timer and clears BLOCKED with its report; a front-eye clear edge takes the front
record of the lane, or is counted TAKEN_UNKNOWN at an empty lane; a front-eye blocked edge changes no record. -/
def Obligations.LaneEyesClearJamsAndTakeTotes : Prop :=
  ∀ (s : State) (k : Ix) (e : Edge) (u : State),
    (edgeTaken (.confirm k) false s e u →
      let s' := u.modBay k fun b => { b with chuteJam := none, blocked := false }
      exec (.confirmEyeClear k) s =
        .next (if (s.bays.get k).blocked = true then s'.report .bayUnblocked k.toNat 0 0 else s').finish) ∧
    (edgeTaken (.front k) false s e u →
      let s' := u
      ((s.bays.get k).landing = [] →
        exec (.frontEyeClear k) s = .next { s' with counters := counted .takenUnknown none (some k.toNat) s }.finish) ∧
      (∀ r rest, (s.bays.get k).landing = r :: rest →
        let x := reportIf .taken k.toNat r.tag r.order (s'.modBay k fun b => { b with landing := rest })
        exec (.frontEyeClear k) s = .next (if r.unexpected = true then x else x.assemblyTaken k r).finish)) ∧
    (edgeTaken (.front k) true s e u → exec (.frontEyeBlocked k) s = .next u.finish)

/-- A landing: a single-tote order is called; a member is counted into its entry, old or new, and calls every bay that holds members
when it is the last; a member without a place in the table or beyond the count is degraded and called on its own. -/
def Obligations.LandingsAreCountedAndCalled : Prop :=
  ∀ (s : State) (k : Ix) (r : LandingRec) (lane : List LandingRec), (s.bays.get k).landing = lane ++ [r] →
    let single := fun (x : State) =>
      (x.modBay k (called s.params (decide (r.cls = Cls.rush)))).report .orderReady (2 ^ k.toNat) r.tag r.order
    let degraded := s.modBay k fun b => { b with landing := lane ++ [{ r with group := none }] }
    let counts := fun (e : GroupEntry) (gs : List GroupEntry) (x : State) =>
      let e' : GroupEntry := { e with
        landed := e.landed + 1, untaken := e.untaken.modify k (· + 1)
        cls := if r.cls = .rush then .rush else e.cls, ready := e.ready || decide (e.landed + 1 = e.count) }
      let y := { s with groups := gs.map fun z => if z.id = e.id then e' else z }
      (e.landed + 1 ≠ e.count → x = y) ∧
      (e.landed + 1 = e.count →
        x = ({ y with bays := .ofFn fun j =>
          if 0 < e'.untaken.get j then called s.params (decide (e'.cls = Cls.rush)) (s.bays.get j) else s.bays.get j }).report .orderReady
            ((Ix.all.map fun j => if 0 < e'.untaken.get j then 2 ^ j.toNat else 0).sum) r.tag r.order)
    (r.group = none → s.assemblyLanding k r = single s) ∧
    (∀ g e, r.group = some g → (s.groups.find? fun x => decide (x.id = g.id)) = some e →
      (e.landed ≠ e.count → counts e s.groups (s.assemblyLanding k r)) ∧
      (e.landed = e.count → s.assemblyLanding k r = single (degraded.report .groupExcess k.toNat r.tag r.order))) ∧
    (∀ g, r.group = some g → (∀ x ∈ s.groups, x.id ≠ g.id) →
      let e : GroupEntry := ⟨g.id, g.count, 0, 0, .const 0, .staged, false⟩
      (s.groups.length < 8 → counts e (s.groups ++ [e]) (s.assemblyLanding k r)) ∧
      (8 ≤ s.groups.length → s.assemblyLanding k r = single (degraded.report .groupUntracked k.toNat r.tag r.order)))

/-- A taken record: a single-tote order is collected; a member is counted in its entry, a ready order leaves the bay with the last
of
its totes there, and the entry is removed and reported collected with its last member. -/
def Obligations.TakenTotesAreCollected : Prop :=
  ∀ (s : State) (k : Ix) (r : LandingRec),
    (r.group = none → s.assemblyTaken k r =
      (s.modBay k (gone (decide (r.cls = Cls.rush)))).report .orderCollected k.toNat r.tag r.order) ∧
    (∀ g e, r.group = some g → (s.groups.find? fun x => decide (x.id = g.id)) = some e →
      let e' : GroupEntry := { e with taken := e.taken + 1, untaken := e.untaken.modify k (· - 1) }
      let x := { s with groups := s.groups.map fun z => if z.id = e.id then e' else z }
      let y := if e.ready = true ∧ e'.untaken.get k = 0 then x.modBay k (gone (decide (e.cls = Cls.rush))) else x
      (e.taken + 1 ≠ e.count → s.assemblyTaken k r = y) ∧
      (e.taken + 1 = e.count → s.assemblyTaken k r =
        ({ y with groups := s.groups.filter fun z => decide (z.id ≠ e.id) }).report .orderCollected k.toNat r.tag r.order))

/-! ### Spurs and merges -/

/-- Gate-eye edges: a blocked edge at an EMPTY spur makes the announced front AT_GATE or a spur stray; a clear edge loses the front
of a WAITING spur, and ends a GRANTED spur's grant by insertion, or by discard where its stamp is late or the zone list is full. A
merged record goes immediately behind the last record whose lead its own has reached, or to the front, and is the new claim candidate,
which ends a hold until it is tested, exactly where every record ahead of it holds a claim.
That a merged record is tested before its exit is log 17's reading, and that its tests read P as it stands and not the stamp log
31's choice; a front record of another sub-state is log 34's. -/
def Obligations.GateEdgesMatchLoseAndMerge : Prop :=
  (∀ (t : Tote) (zone : List Tote),
    ∃ a b, zone = a ++ b ∧ insertByLead t zone = a ++ t :: b ∧ (∀ r ∈ b, reached t.lead r.lead = false) ∧
      (∀ r ∈ a.getLast?, reached t.lead r.lead = true) ∧
      (becomesCandidate t.lead zone = true ↔ ∀ r ∈ a, r.claim.isSome = true)) ∧
  ∀ (s : State) (i : Ix) (e : Edge) (s' : State),
    let acts := s.node.state ≠ .config ∧ (s.params.spur.get i).enable = 1
    let p := s.params.spur.get i
    (edgeTaken (.gate i) true s e s' →
      (¬ acts ∨ (s.spurs.get i).st ≠ .empty → exec (.gateEyeBlocked i) s = .next s'.finish) ∧
      (acts → (s.spurs.get i).st = .empty →
        (∀ r rest, (s.spurs.get i).list = r :: rest → exec (.gateEyeBlocked i) s = .next
          ((s'.modSpur i fun x => { x with st := .waiting, list := { r with sub := .atGate } :: rest }).reTest).finish) ∧
        ((s.spurs.get i).list = [] → exec (.gateEyeBlocked i) s = .next
          ((((s'.modSpur i fun x => { x with
            st := .waiting, list := [⟨⟨0, 0, 0, .staged, .small, none, s.node.address⟩, .atGate, true⟩] }).report .spurStray
              i.toNat 0 0).offer .stray (some .staged) (some i.toNat)).reTest).finish))) ∧
    (edgeTaken (.gate i) false s e s' →
      (¬ acts ∨ (s.spurs.get i).st = .empty ∨ (s.spurs.get i).st = .blocked →
        exec (.gateEyeClear i) s = .next s'.finish) ∧
      (∀ r rest, acts → (s.spurs.get i).list = r :: rest →
        ((s.spurs.get i).st = .waiting → exec (.gateEyeClear i) s = .next
          ((s'.modSpur i fun x => { x with st := .empty, list := rest }).report .spurLost i.toNat r.ident.tag
            r.ident.order).finish) ∧
        (∀ g, (s.spurs.get i).st = .granted g →
          let late := reached e.stamp (g.lead + BitVec.ofNat 24 p.merge + BitVec.ofNat 24 s.params.lenLarge +
            BitVec.ofNat 24 s.params.gap)
          let freed := fun (x : State) => x.modSpur i fun y =>
            { y with st := .empty, list := rest, gateTimer := none, releaseTimer := none }
          let released := match g.decision with
            | .pass => s'
            | .land k => s'.modBay k fun b => { b with reserved := b.reserved - 1 }
          (late = true → exec (.gateEyeClear i) s = .next
            (((freed released).report .spurLate i.toNat r.ident.tag r.ident.order).reTest).finish) ∧
          (late = false → 24 ≤ s.zone.length → exec (.gateEyeClear i) s = .next
            (((freed released).report .untracked (1 + i.toNat) r.ident.tag r.ident.order).reTest).finish) ∧
          (late = false → s.zone.length < 24 →
            let x := (freed s').offer .mergeDone (some r.ident.cls) (some i.toNat)
            let len := nominalLength s.params r.ident.size
            let t : Tote := ⟨r.ident, ⟨r.stray, false, false, true, g.overflow, false, g.noRoute⟩, g.lead,
              match g.decision with | .pass => .riding len none | .land k => armedFor s g.lead len k⟩
            let a := x.testDivert t
            exec (.gateEyeClear i) s = .next
              ((({ a.2 with
                zone := insertByLead a.1 s.zone
                credit := { s.credit with exitHold := s.credit.exitHold && !becomesCandidate g.lead s.zone } }).exitTests).reTest).finish))))

/-- The arbitration of an event: no grant without an eligible spur; else one winner by patience, class and the cyclic order, its
passed-over count 0 and the others' one higher, granted with its virtual lead, route decision and both timers.
When an event arbitrates is log 30's reading. -/
def Obligations.MergeArbitrationGrantsOneSpur : Prop :=
  ∀ s : State,
    let el := Ix.all.filter s.eligible
    let staged := fun i => s.eligible i && frontClass (s.spurs.get i) .staged && decide (s.params.patience ≤ (s.spurs.get i).passedOver)
    let rush := fun i => s.eligible i && frontClass (s.spurs.get i) .rush
    let candidate := fun i => if Ix.all.any staged then staged i else if Ix.all.any rush then rush i else s.eligible i
    (el = [] → s.arbitrate = s) ∧
    (∀ w, candidate w = true →
      (∀ j, candidate j = true → (w.toNat + 2 - s.lastWinner.toNat) % 3 ≤ (j.toNat + 2 - s.lastWinner.toNat) % 3) →
      let x := { s with
        lastWinner := w
        spurs := .ofFn fun i => { s.spurs.get i with
          passedOver := if i = w then 0 else if s.eligible i = true then min 15 ((s.spurs.get i).passedOver + 1)
            else (s.spurs.get i).passedOver } }
      ∃ r rest, (s.spurs.get w).list = r :: rest ∧
        let o := s.routeChoice r.ident
        let lead := s.pos.P + BitVec.ofNat 24 (s.params.spur.get w).adj - BitVec.ofNat 24 (s.params.spur.get w).merge
        s.arbitrate = (routeLeaves o r.ident r.stray x).modSpur w fun y => { y with
          st := .granted ⟨lead, o.decision, o.overflow, o.noRoute⟩
          gateTimer := some (s.params.spur.get w).gateMs
          releaseTimer := some (s.params.spur.get w).releaseMs }) ∧
    (∀ i, s.eligible i = true ↔
      (s.spurs.get i).st = .waiting ∧ s.node.state = .run ∧ s.credit.exitHold = false ∧
      (s.params.mergeMinSpeed : Int) ≤ s.pos.S ∧ (∀ j g, (s.spurs.get j).st ≠ .granted g) ∧
      s.expected.length + s.zone.length + s.credit.o < s.params.zoneBudget ∧
      ∃ r rest, (s.spurs.get i).list = r :: rest ∧
        let lead := s.pos.P + BitVec.ofNat 24 (s.params.spur.get i).adj - BitVec.ofNat 24 (s.params.spur.get i).merge
        let trail := lead + BitVec.ofNat 24 (nominalLength s.params r.ident.size)
        ∀ t ∈ s.zone,
          reached lead ((if t.track.code = 0 then s.pos.P else t.lead + BitVec.ofNat 24 t.track.length) +
            BitVec.ofNat 24 s.params.gap) = true ∨
          reached t.lead (trail + BitVec.ofNat 24 s.params.gap) = true)

/-! ### The line ports -/

/-- A whole frame is delivered by its DEST and port: requests to the Management Unit, next-hop frames to the Credit Unit, line-head
and other nodes' frames to the opposite forward queue, which drops what finds 8; the rest dropped with its event. A frame with LEN
above 60 is abandoned.
That these commands go by the frame's own address is log 11's choice. -/
def Obligations.FramesAreDeliveredByAddress : Prop :=
  (∀ (p : Port) (f : Frame) (s : State), ∀ c ∈ ([.frameForward p f, .frameDrop p f] : List Instr),
    let s' := s.frameArrives p
    let a := f.dest.toNat % 64
    let own := decide (a = s.node.address)
    let asRequest := fun (all : Bool) => (⟨p, all, BitVec.ofNat 2 (f.dest.toNat / 64), f.src, f.tag, f.payload⟩ : Request)
    (60 < f.payload.length → exec c s = .next (tooLong p s').finish) ∧
    (f.payload.length ≤ 60 →
      (own = false → 1 ≤ a → a ≤ 61 → exec c s = .next (s'.forward p.other f).finish) ∧
      (own = false → a = 0 → p = .D → exec c s = .next (s'.forward .U f).finish) ∧
      (own = false → a = 0 → p = .U → exec c s = .next (dropped .U s').finish) ∧
      (own = false → a = 63 → p = .D → exec c s = .next (dropped .D s').finish) ∧
      (own = true → f.kind.toNat ∈ [1, 2, 3] ∨ 0x80 ≤ f.kind.toNat → exec c s = .next (dropped p s').finish) ∧
      (own = true ∨ a = 63 ∧ p = .U →
        (∀ x ∈ requestCommands, f.kind = x.1 → exec c s = exec (x.2 (asRequest (!own))) s) ∧
        (otherKind f.kind → exec c s = exec (.unknownKindRequest f.kind (asRequest (!own))) s)) ∧
      (own = false → a = 63 → p = .U → f.kind.toNat ∈ [1, 2, 3] ∨ 0x80 ≤ f.kind.toNat →
        exec c s = .next (s'.forward .D f).finish) ∧
      (own = false → a = 62 → f.kind ≠ (match p with | .U => 0x01 | .D => 0x02) → exec c s = .next (dropped p s').finish) ∧
      (own = false → a = 62 → p = .U → f.kind = 0x01 → exec c s = exec (.notice f.payload) s) ∧
      (own = false → a = 62 → p = .D → f.kind = 0x02 →
        (∀ v x, f.payload = [0x01, v, x] → exec c s = exec (.creditSync v x) s) ∧
        (∀ g r, f.payload = [0x02, g, r] → exec c s = exec (.creditLocked g r) s) ∧
        (f.payload.length ≠ 3 ∨ f.payload.head? ≠ some 0x01 ∧ f.payload.head? ≠ some 0x02 →
          exec c s = .next (dropped .D s').finish)))) ∧
  ∀ (out : Port) (f : Frame) (s : State),
    ((s.lines.get out).fwd.length < 8 → s.forward out f =
      { s with lines := s.lines.put out { s.lines.get out with fwd := (s.lines.get out).fwd ++ [f] } }) ∧
    (8 ≤ (s.lines.get out).fwd.length → s.forward out f = dropped out s)

/-- The transmit arbiter: a busy transmitter keeps its frame; a free one takes the forward queue's head at a passed count of 4, else
by the fixed priority, with the counts, the CREDIT contents and the REPORT contents of the moment, each entry in nine bytes by its
kind's code; a sent frame frees it. A report entry joins the report queue, or with 16 waiting is counted as dropped.
That the arbiters choose at the end of each event is log 9's reading, that a window's drive is tested there log 19's, that a CREDIT
frame leaves the count as it starts log 21's choice, and that a NOTICE or a response leaves its queue as it starts log 22's. -/
def Obligations.TransmittersTakeWhatWaits : Prop :=
  (∀ (k : ReportKind) (d : Nat) (tag : BitVec 32) (order : BitVec 24) (s : State),
    (s.reports.length < 16 → s.report k d tag order = { s with reports := s.reports ++ [Report.mk k (byte d) tag order] }) ∧
    (16 ≤ s.reports.length → s.report k d tag order = { s with dropped := min 255 (s.dropped + 1) })) ∧
  (∀ (p : Port) (s : State),
    let x := s.lines.get p
    let start := fun (f : Frame) (y : State) => { y with lines := y.lines.put p { y.lines.get p with
      tx := some ⟨f, false⟩, passed := if x.fwd = [] then x.passed else x.passed + 1 } }
    let credit := p = .U ∧ 0 < s.credit.waiting
    let notice := p = .D ∧ s.lines.notices ≠ []
    let urgent := 4 ≤ x.passed ∧ x.fwd ≠ []
    (x.tx.isSome = true → s.pump p = s) ∧
    (x.tx = none → urgent → ∀ f rest, x.fwd = f :: rest → s.pump p =
      { s with lines := s.lines.put p { x with tx := some ⟨f, false⟩, fwd := rest, passed := 0 } }) ∧
    (x.tx = none → ¬ urgent → credit → s.pump p =
      { start ⟨0x3E, byte s.node.address, 0x02, 0x00, if s.credit.mode = .sync then [0x01, byte s.credit.o, 0x00]
          else [0x02, s.credit.g, s.credit.r]⟩ s with
        credit := { s.credit with waiting := s.credit.waiting - 1 } }) ∧
    (x.tx = none → ¬ urgent → notice → ∀ f rest, s.lines.notices = f :: rest → s.pump p =
      start f { s with lines := { s.lines with notices := rest } }) ∧
    (x.tx = none → ¬ urgent → ¬ credit → ¬ notice → ∀ f rest, x.responses = f :: rest → s.pump p =
      { s with lines := s.lines.put p { x with
        tx := some f, responses := rest, passed := if x.fwd = [] then x.passed else x.passed + 1 } }) ∧
    (x.tx = none → ¬ urgent → ¬ credit → ¬ notice → x.responses = [] → ∀ f rest, x.fwd = f :: rest → s.pump p =
      { s with lines := s.lines.put p { x with tx := some ⟨f, false⟩, fwd := rest, passed := 0 } }) ∧
    (x.tx = none → ¬ credit → ¬ notice → x.responses = [] → x.fwd = [] →
      (p = .U → s.reports ≠ [] ∨ 0 < s.dropped → s.pump p =
        { start ⟨0x00, byte s.node.address, 0x03, s.lines.seq, [byte s.dropped, byte (s.reports.take 4).length] ++
            (s.reports.take 4).flatMap entryBytes⟩ { s with lines := { s.lines with seq := s.lines.seq + 1 } } with
          reports := s.reports.drop 4, dropped := 0 }) ∧
      (p = .D ∨ s.reports = [] ∧ s.dropped = 0 → s.pump p = s))) ∧
  (∀ s : State, s.finish =
    (({ s with pos := { s.pos with windowDriven := s.pos.windowDriven &&
      (decide (s.node.state = NodeState.run) && !s.credit.exitHold) } }).pump .U).pump .D) ∧
  ∀ (p : Port) (s : State),
    ((s.lines.get p).tx = none → exec (.frameSent p) s = .next s) ∧
    ∀ f, (s.lines.get p).tx = some f → f.thenReset = false →
      exec (.frameSent p) s = .next { s with lines := s.lines.put p { s.lines.get p with tx := none } }.finish

/-- A character's 11 bits are a low start bit, its data least significant first, its mark and a high stop bit, low in a framing
error, and are read back as it. At a receiver one character follows the table of R163, an abandoned frame offers CHECK_ERROR; a
frame sent character by character to a port is received and delivered as that frame, one whose CHECK differs is abandoned with its
last character, and one with LEN above 60 at its LEN. A new whole frame abandons one in progress (log 10). A transmit line carries
the bits of the frame being sent, or is held high.
That a character both marked and with a framing error goes by the framing-error row is log 25's choice. -/
def Obligations.FramesSentAreFramesReceived : Prop :=
  (∀ f : Frame, f.body = [f.dest, f.src, f.kind, f.tag, byte f.payload.length] ++ f.payload ∧
    f.check = [(crc f.body).extractLsb' 8 8, (crc f.body).extractLsb' 0 8] ∧ f.chars = charsOf (f.body ++ f.check)) ∧
  (∀ (s : State) (p : Port), (match p with | .U => s.outputs.lut | .D => s.outputs.ldt) =
    match (s.lines.get p).tx with
    | none => .heldHigh
    | some x => .sending (x.frame.chars.flatMap LineChar.bits)) ∧
  (∀ c : LineChar, c.bits.length = 11 ∧ c.bits[0]? = some false ∧ (∀ n, n < 8 → c.bits[n + 1]? = some (c.data.getLsbD n)) ∧
    c.bits[9]? = some c.mark ∧ c.bits[10]? = some (!c.framingError) ∧ charOfBits c.gap c.bits = some c) ∧
  (∀ (bs : List Byte) (n : Nat) (c : LineChar), (charsOf bs)[n]? = some c →
    bs[n]? = some c.data ∧ (c.mark = true ↔ n = 0) ∧ c.framingError = false ∧ c.gap = false) ∧
  (∀ (p : Port) (s : State) (c : LineChar) (x : RxState × RxResult), receiverTable (s.lines.get p).rx c = some x →
    let s' := { s with lines := s.lines.put p { s.lines.get p with rx := x.1 } }
    exec (.frameAbandon p [c]) s = .next
      (if x.2 = .abandoned then { s' with counters := counted .checkError none (some (portBit p)) s } else s').finish) ∧
  (∀ f : Frame, f.payload.length ≤ 60 →
    (receive .idle f.chars).1 = .idle ∧ (receive .idle f.chars).2 = List.replicate (f.payload.length + 6) .quiet ++ [.complete f]) ∧
  (∀ (p : Port) (f : Frame) (s : State), f.payload.length ≤ 60 → exec (.frameAbandon p f.chars) s = exec (.frameForward p f) s) ∧
  (∀ (p : Port) (f : Frame) (s : State) (a b : Byte), f.payload.length ≤ 60 → [a, b] ≠ f.check →
    (receive .idle (charsOf (f.body ++ [a, b]))).2 = List.replicate (f.payload.length + 6) .quiet ++ [.abandoned] ∧
    exec (.frameAbandon p (charsOf (f.body ++ [a, b]))) s = .next (tooLong p (s.frameArrives p)).finish) ∧
  (∀ (p : Port) (s : State) (dest src kind tag len : Byte), 60 < len.toNat →
    (receive .idle (charsOf [dest, src, kind, tag, len])).2 = [.quiet, .quiet, .quiet, .quiet, .abandoned] ∧
    exec (.frameAbandon p (charsOf [dest, src, kind, tag, len])) s = .next (tooLong p (s.frameArrives p)).finish) ∧
  ∀ (p : Port) (s : State),
    ((s.lines.get p).rx = .idle → s.frameArrives p = s) ∧
    ∀ got, (s.lines.get p).rx = .inFrame got →
      s.frameArrives p = tooLong p { s with lines := s.lines.put p { s.lines.get p with rx := .idle } }

/-- CHECK is the remainder of R164, from FFFFh, byte by byte, most significant bit first, by 1021h; it sees any change of one data
byte, wherever it stands. -/
def Obligations.CheckSeesAChangedByte : Prop :=
  (crc [] = 0xFFFF ∧ ∀ (a : List Byte) (x : Byte), crc (a ++ [x]) = crcStep (crc a) x) ∧
  ∀ (a b : List Byte) (x y : Byte), x ≠ y → crc (a ++ x :: b) ≠ crc (a ++ y :: b)

/-- A NOTICE's payload carries the tote's identity fields whole to the next zone. Whatever the bytes of a NOTICE or SPUR NOTICE of a
fitting LEN, a dest above 127 is read as 0, an origin above 61 as 61, and a group part outside its ranges as none. -/
def Obligations.NoticePayloadsCarryTheTote : Prop :=
  (∀ (q : Byte) (i : Ident), identSound i →
    decodeNotice (noticePayload q i) = some (q, i) ∧
      (noticePayload q i).length = if i.group.isSome = true then 14 else 11) ∧
  ∀ (q t0 t1 t2 t3 o0 o1 o2 dest attr origin g0 g1 ci : Byte) (address : Nat),
    let id := 256 * g0.toNat + g1.toNat
    let count := ci.toNat / 16
    let index := ci.toNat % 16
    let group : Option GroupPart :=
      if id ≠ 0 ∧ 2 ≤ count ∧ count ≤ 8 ∧ 1 ≤ index ∧ index ≤ count then some ⟨id, count, index⟩ else none
    let from' : Nat := if 62 ≤ origin.toNat then 61 else origin.toNat
    let tote := fun (g : Option GroupPart) (n : Nat) => (⟨t0 ++ t1 ++ t2 ++ t3, o0 ++ o1 ++ o2,
      if 128 ≤ dest.toNat then 0 else BitVec.ofNat 7 dest.toNat, if attr.getLsbD 0 = true then .rush else .staged,
      if attr.getLsbD 1 = true then .large else .small, g, n⟩ : Ident)
    (attr.getLsbD 2 = false →
      decodeNotice [q, t0, t1, t2, t3, o0, o1, o2, dest, attr, origin] = some (q, tote none from') ∧
      decodeSpurNotice address [q, t0, t1, t2, t3, o0, o1, o2, dest, attr] = some (q, tote none address)) ∧
    (attr.getLsbD 2 = true →
      decodeNotice [q, t0, t1, t2, t3, o0, o1, o2, dest, attr, g0, g1, ci, origin] = some (q, tote group from') ∧
      decodeSpurNotice address [q, t0, t1, t2, t3, o0, o1, o2, dest, attr, g0, g1, ci] = some (q, tote group address))

/-! ### Laws that every step keeps -/

/-- Every law holds right after reset. -/
def Obligations.ResetMeetsEveryLaw : Prop :=
  ListsFit .reset ∧ QueuesFit .reset ∧ FramesFit .reset ∧ ParamsSound .reset ∧ PositionSound .reset ∧ EyesSound .reset ∧
    NodeSound .reset ∧ ConfigQuiet .reset ∧ SpursSound .reset ∧ TagsUnique .reset ∧ IdentsSound .reset ∧ ReservedSound .reset ∧
    CreditsSound .reset ∧ TerminalQuiet .reset ∧ AssemblySound .reset ∧ LampsSound .reset

/-- No step makes a list or table of records longer than its capacity, and both route banks keep 128 entries with entry 0 PASS. -/
def Obligations.StepsKeepListsWithinCapacity : Prop :=
  ∀ s t : State, ListsFit s → step s = .next t → ListsFit t

/-- No step makes a queue of frames or reports longer than its capacity, or holds a frame the bus cannot carry. -/
def Obligations.StepsKeepQueuesWithinCapacity : Prop :=
  ∀ s t : State, QueuesFit s → FramesFit s → step s = .next t → QueuesFit t ∧ FramesFit t

/-- Every step keeps the parameters in range, the sub-count within ENC_DIV, the clamps of S and the compensations, each eye's
blocked-since values with its filtered state, the jam position with the entry eye, and at most one edge event of an eye waiting,
its command in the queue, with a blocked-since position exactly at a clear edge. -/
def Obligations.StepsKeepInputsSound : Prop :=
  ∀ s t : State, ParamsSound s → PositionSound s → EyesSound s → step s = .next t →
    ParamsSound t ∧ PositionSound t ∧ EyesSound t

/-- Every step keeps the halt cause with HALT, paddles and grants to RUN, and the zone side of a node in CONFIG empty. -/
def Obligations.StepsKeepNodeStatesSound : Prop :=
  ∀ s t : State, NodeSound s → ConfigQuiet s → step s = .next t → NodeSound t ∧ ConfigQuiet t

/-- Every step keeps each spur's state in agreement with its front record and its timers. -/
def Obligations.StepsKeepSpurStatesSound : Prop :=
  ∀ s t : State, SpursSound s → step s = .next t → SpursSound t

/-- No step lets a nonzero tag stand twice among the announced records. -/
def Obligations.StepsKeepAnnouncedTagsUnique : Prop :=
  ∀ s t : State, TagsUnique s → step s = .next t → TagsUnique t

/-- Every step keeps each record's identity fields in their ranges. -/
def Obligations.StepsKeepIdentitiesInRange : Prop :=
  ∀ s t : State, IdentsSound s → step s = .next t → IdentsSound t

/-- Every step keeps each reserved count equal to the LAND decisions that hold it, with at most one spur GRANTED. -/
def Obligations.StepsKeepReservationsMatched : Prop :=
  ∀ s t : State, ReservedSound s → step s = .next t → ReservedSound t

/-- Every step keeps o within UP_LIMIT, at 0 in CONFIG and equal to g − r in LOCKED, and the exit side's view within 16. -/
def Obligations.StepsKeepCreditsSound : Prop :=
  ∀ s t : State, ParamsSound s → CreditsSound s → step s = .next t → CreditsSound t

/-- On a terminal node no step sets exit hold or makes a claim. -/
def Obligations.StepsKeepTerminalNodesUnheld : Prop :=
  ∀ s t : State, ConfigQuiet s → TerminalQuiet s → step s = .next t → TerminalQuiet t

/-- Every step keeps the group table, the landing lists and the ready counts in agreement. -/
def Obligations.StepsKeepAssemblyCountsTrue : Prop :=
  ∀ s t : State, IdentsSound s → AssemblySound s → step s = .next t → AssemblySound t

/-- Every step keeps each lamp dark exactly at a bay with no ready order, and every level, shown or not, at most 8. -/
def Obligations.StepsKeepLampsWithReadyCounts : Prop :=
  ∀ s t : State, LampsSound s → step s = .next t → LampsSound t
end

