-- ==== Sys2Proof/Laws/State.lean ====
section
/-! SUPPORT. The small lemmas of the accessors and of the state's updates: what is read after a write, and which
fields an update keeps. -/

namespace Sys2Proof

/-! ### Indices, triples, ports -/

theorem Ix.mem_all (i : Ix) : i ∈ Ix.all := by cases i <;> decide

theorem Ix.forall_all {p : Ix → Prop} : (∀ i ∈ Ix.all, p i) ↔ ∀ i, p i :=
  ⟨fun h i => h i (Ix.mem_all i), fun h i _ => h i⟩

theorem Ix.ofNat?_toNat (i : Ix) : Ix.ofNat? i.toNat = some i := by cases i <;> rfl

theorem Ix.toNat_lt (i : Ix) : i.toNat < 3 := by cases i <;> decide

@[simp] theorem Tri.get_const {α : Type} (a : α) (i : Ix) : (Tri.const a).get i = a := by cases i <;> rfl

@[simp] theorem Tri.get_ofFn {α : Type} (f : Ix → α) (i : Ix) : (Tri.ofFn f).get i = f i := by cases i <;> rfl

@[simp] theorem Tri.get_map {α β : Type} (f : α → β) (t : Tri α) (i : Ix) : (t.map f).get i = f (t.get i) := by
  cases i <;> rfl

@[simp] theorem Tri.get_set_self {α : Type} (t : Tri α) (i : Ix) (a : α) : (t.set i a).get i = a := by cases i <;> rfl

theorem Tri.get_set {α : Type} (t : Tri α) (i j : Ix) (a : α) : (t.set i a).get j = if j = i then a else t.get j := by
  cases i <;> cases j <;> rfl

theorem Tri.get_set_of_ne {α : Type} (t : Tri α) {i j : Ix} (a : α) (h : j ≠ i) : (t.set i a).get j = t.get j := by
  simp [Tri.get_set, h]

@[simp] theorem Tri.get_modify_self {α : Type} (t : Tri α) (i : Ix) (f : α → α) :
    (t.modify i f).get i = f (t.get i) := by cases i <;> rfl

theorem Tri.get_modify {α : Type} (t : Tri α) (i j : Ix) (f : α → α) :
    (t.modify i f).get j = if j = i then f (t.get j) else t.get j := by
  cases i <;> cases j <;> rfl

theorem Tri.ext_get {α : Type} {t u : Tri α} (h : ∀ i, t.get i = u.get i) : t = u := by
  cases t; cases u
  exact (Tri.mk.injEq ..).mpr ⟨h .i0, h .i1, h .i2⟩

end Sys2Proof

namespace Sys2Proof.Machine

@[simp] theorem Lines.get_put_self (l : Lines) (p : Port) (x : LinePort) : (l.put p x).get p = x := by cases p <;> rfl

theorem Lines.get_put (l : Lines) (p q : Port) (x : LinePort) : (l.put p x).get q = if q = p then x else l.get q := by
  cases p <;> cases q <;> rfl

@[simp] theorem Lines.put_notices (l : Lines) (p : Port) (x : LinePort) : (l.put p x).notices = l.notices := by
  cases p <;> rfl

@[simp] theorem Lines.put_seq (l : Lines) (p : Port) (x : LinePort) : (l.put p x).seq = l.seq := by cases p <;> rfl

@[simp] theorem Lines.put_get_self (l : Lines) (p : Port) : l.put p (l.get p) = l := by cases p <;> rfl

@[simp] theorem EyeUnit.get_put_self (e : EyeUnit) (i : EyeId) (x : Eye) : (e.put i x).get i = x := by
  cases i <;> simp [EyeUnit.put, EyeUnit.get]

theorem EyeUnit.get_put (e : EyeUnit) (i j : EyeId) (x : Eye) : (e.put i x).get j = if j = i then x else e.get j := by
  cases i <;> cases j <;> simp [EyeUnit.put, EyeUnit.get, Tri.get_set]

/-! ### Updates of one field group: what they keep -/

@[simp] theorem State.modBay_inputs (s : State) (k : Ix) (f : Bay → Bay) : (s.modBay k f).inputs = s.inputs := rfl
@[simp] theorem State.modBay_time (s : State) (k : Ix) (f : Bay → Bay) : (s.modBay k f).time = s.time := rfl
@[simp] theorem State.modBay_pos (s : State) (k : Ix) (f : Bay → Bay) : (s.modBay k f).pos = s.pos := rfl
@[simp] theorem State.modBay_eyes (s : State) (k : Ix) (f : Bay → Bay) : (s.modBay k f).eyes = s.eyes := rfl
@[simp] theorem State.modBay_tagPort (s : State) (k : Ix) (f : Bay → Bay) : (s.modBay k f).tagPort = s.tagPort := rfl
@[simp] theorem State.modBay_params (s : State) (k : Ix) (f : Bay → Bay) : (s.modBay k f).params = s.params := rfl
@[simp] theorem State.modBay_expected (s : State) (k : Ix) (f : Bay → Bay) : (s.modBay k f).expected = s.expected := rfl
@[simp] theorem State.modBay_zone (s : State) (k : Ix) (f : Bay → Bay) : (s.modBay k f).zone = s.zone := rfl
@[simp] theorem State.modBay_jamAt (s : State) (k : Ix) (f : Bay → Bay) : (s.modBay k f).jamAt = s.jamAt := rfl
@[simp] theorem State.modBay_spurs (s : State) (k : Ix) (f : Bay → Bay) : (s.modBay k f).spurs = s.spurs := rfl
@[simp] theorem State.modBay_lastWinner (s : State) (k : Ix) (f : Bay → Bay) : (s.modBay k f).lastWinner = s.lastWinner := rfl
@[simp] theorem State.modBay_lamps (s : State) (k : Ix) (f : Bay → Bay) : (s.modBay k f).lamps = s.lamps := rfl
@[simp] theorem State.modBay_groups (s : State) (k : Ix) (f : Bay → Bay) : (s.modBay k f).groups = s.groups := rfl
@[simp] theorem State.modBay_routes (s : State) (k : Ix) (f : Bay → Bay) : (s.modBay k f).routes = s.routes := rfl
@[simp] theorem State.modBay_credit (s : State) (k : Ix) (f : Bay → Bay) : (s.modBay k f).credit = s.credit := rfl
@[simp] theorem State.modBay_node (s : State) (k : Ix) (f : Bay → Bay) : (s.modBay k f).node = s.node := rfl
@[simp] theorem State.modBay_lines (s : State) (k : Ix) (f : Bay → Bay) : (s.modBay k f).lines = s.lines := rfl
@[simp] theorem State.modBay_reports (s : State) (k : Ix) (f : Bay → Bay) : (s.modBay k f).reports = s.reports := rfl
@[simp] theorem State.modBay_dropped (s : State) (k : Ix) (f : Bay → Bay) : (s.modBay k f).dropped = s.dropped := rfl
@[simp] theorem State.modBay_counters (s : State) (k : Ix) (f : Bay → Bay) : (s.modBay k f).counters = s.counters := rfl
@[simp] theorem State.modBay_pending (s : State) (k : Ix) (f : Bay → Bay) : (s.modBay k f).pending = s.pending := rfl

@[simp] theorem State.modBay_bays_get (s : State) (k j : Ix) (f : Bay → Bay) :
    (s.modBay k f).bays.get j = if j = k then f (s.bays.get j) else s.bays.get j := Tri.get_modify ..

@[simp] theorem State.modSpur_inputs (s : State) (i : Ix) (f : Spur → Spur) : (s.modSpur i f).inputs = s.inputs := rfl
@[simp] theorem State.modSpur_time (s : State) (i : Ix) (f : Spur → Spur) : (s.modSpur i f).time = s.time := rfl
@[simp] theorem State.modSpur_pos (s : State) (i : Ix) (f : Spur → Spur) : (s.modSpur i f).pos = s.pos := rfl
@[simp] theorem State.modSpur_eyes (s : State) (i : Ix) (f : Spur → Spur) : (s.modSpur i f).eyes = s.eyes := rfl
@[simp] theorem State.modSpur_tagPort (s : State) (i : Ix) (f : Spur → Spur) : (s.modSpur i f).tagPort = s.tagPort := rfl
@[simp] theorem State.modSpur_params (s : State) (i : Ix) (f : Spur → Spur) : (s.modSpur i f).params = s.params := rfl
@[simp] theorem State.modSpur_expected (s : State) (i : Ix) (f : Spur → Spur) : (s.modSpur i f).expected = s.expected := rfl
@[simp] theorem State.modSpur_zone (s : State) (i : Ix) (f : Spur → Spur) : (s.modSpur i f).zone = s.zone := rfl
@[simp] theorem State.modSpur_jamAt (s : State) (i : Ix) (f : Spur → Spur) : (s.modSpur i f).jamAt = s.jamAt := rfl
@[simp] theorem State.modSpur_lastWinner (s : State) (i : Ix) (f : Spur → Spur) : (s.modSpur i f).lastWinner = s.lastWinner := rfl
@[simp] theorem State.modSpur_bays (s : State) (i : Ix) (f : Spur → Spur) : (s.modSpur i f).bays = s.bays := rfl
@[simp] theorem State.modSpur_lamps (s : State) (i : Ix) (f : Spur → Spur) : (s.modSpur i f).lamps = s.lamps := rfl
@[simp] theorem State.modSpur_groups (s : State) (i : Ix) (f : Spur → Spur) : (s.modSpur i f).groups = s.groups := rfl
@[simp] theorem State.modSpur_routes (s : State) (i : Ix) (f : Spur → Spur) : (s.modSpur i f).routes = s.routes := rfl
@[simp] theorem State.modSpur_credit (s : State) (i : Ix) (f : Spur → Spur) : (s.modSpur i f).credit = s.credit := rfl
@[simp] theorem State.modSpur_node (s : State) (i : Ix) (f : Spur → Spur) : (s.modSpur i f).node = s.node := rfl
@[simp] theorem State.modSpur_lines (s : State) (i : Ix) (f : Spur → Spur) : (s.modSpur i f).lines = s.lines := rfl
@[simp] theorem State.modSpur_reports (s : State) (i : Ix) (f : Spur → Spur) : (s.modSpur i f).reports = s.reports := rfl
@[simp] theorem State.modSpur_dropped (s : State) (i : Ix) (f : Spur → Spur) : (s.modSpur i f).dropped = s.dropped := rfl
@[simp] theorem State.modSpur_counters (s : State) (i : Ix) (f : Spur → Spur) : (s.modSpur i f).counters = s.counters := rfl
@[simp] theorem State.modSpur_pending (s : State) (i : Ix) (f : Spur → Spur) : (s.modSpur i f).pending = s.pending := rfl

@[simp] theorem State.modSpur_spurs_get (s : State) (i j : Ix) (f : Spur → Spur) :
    (s.modSpur i f).spurs.get j = if j = i then f (s.spurs.get j) else s.spurs.get j := Tri.get_modify ..

@[simp] theorem State.modPort_inputs (s : State) (p : Port) (f : LinePort → LinePort) : (s.modPort p f).inputs = s.inputs := rfl
@[simp] theorem State.modPort_time (s : State) (p : Port) (f : LinePort → LinePort) : (s.modPort p f).time = s.time := rfl
@[simp] theorem State.modPort_pos (s : State) (p : Port) (f : LinePort → LinePort) : (s.modPort p f).pos = s.pos := rfl
@[simp] theorem State.modPort_eyes (s : State) (p : Port) (f : LinePort → LinePort) : (s.modPort p f).eyes = s.eyes := rfl
@[simp] theorem State.modPort_tagPort (s : State) (p : Port) (f : LinePort → LinePort) : (s.modPort p f).tagPort = s.tagPort := rfl
@[simp] theorem State.modPort_params (s : State) (p : Port) (f : LinePort → LinePort) : (s.modPort p f).params = s.params := rfl
@[simp] theorem State.modPort_expected (s : State) (p : Port) (f : LinePort → LinePort) : (s.modPort p f).expected = s.expected := rfl
@[simp] theorem State.modPort_zone (s : State) (p : Port) (f : LinePort → LinePort) : (s.modPort p f).zone = s.zone := rfl
@[simp] theorem State.modPort_jamAt (s : State) (p : Port) (f : LinePort → LinePort) : (s.modPort p f).jamAt = s.jamAt := rfl
@[simp] theorem State.modPort_spurs (s : State) (p : Port) (f : LinePort → LinePort) : (s.modPort p f).spurs = s.spurs := rfl
@[simp] theorem State.modPort_lastWinner (s : State) (p : Port) (f : LinePort → LinePort) : (s.modPort p f).lastWinner = s.lastWinner := rfl
@[simp] theorem State.modPort_bays (s : State) (p : Port) (f : LinePort → LinePort) : (s.modPort p f).bays = s.bays := rfl
@[simp] theorem State.modPort_lamps (s : State) (p : Port) (f : LinePort → LinePort) : (s.modPort p f).lamps = s.lamps := rfl
@[simp] theorem State.modPort_groups (s : State) (p : Port) (f : LinePort → LinePort) : (s.modPort p f).groups = s.groups := rfl
@[simp] theorem State.modPort_routes (s : State) (p : Port) (f : LinePort → LinePort) : (s.modPort p f).routes = s.routes := rfl
@[simp] theorem State.modPort_credit (s : State) (p : Port) (f : LinePort → LinePort) : (s.modPort p f).credit = s.credit := rfl
@[simp] theorem State.modPort_node (s : State) (p : Port) (f : LinePort → LinePort) : (s.modPort p f).node = s.node := rfl
@[simp] theorem State.modPort_reports (s : State) (p : Port) (f : LinePort → LinePort) : (s.modPort p f).reports = s.reports := rfl
@[simp] theorem State.modPort_dropped (s : State) (p : Port) (f : LinePort → LinePort) : (s.modPort p f).dropped = s.dropped := rfl
@[simp] theorem State.modPort_counters (s : State) (p : Port) (f : LinePort → LinePort) : (s.modPort p f).counters = s.counters := rfl
@[simp] theorem State.modPort_pending (s : State) (p : Port) (f : LinePort → LinePort) : (s.modPort p f).pending = s.pending := rfl

@[simp] theorem State.modPort_lines_get (s : State) (p q : Port) (f : LinePort → LinePort) :
    (s.modPort p f).lines.get q = if q = p then f (s.lines.get q) else s.lines.get q := by
  cases p <;> cases q <;> rfl

@[simp] theorem State.offer_inputs (s : State) (e : EventCode) (k : Option Cls) (q : Option Nat) : (s.offer e k q).inputs = s.inputs := rfl
@[simp] theorem State.offer_time (s : State) (e : EventCode) (k : Option Cls) (q : Option Nat) : (s.offer e k q).time = s.time := rfl
@[simp] theorem State.offer_pos (s : State) (e : EventCode) (k : Option Cls) (q : Option Nat) : (s.offer e k q).pos = s.pos := rfl
@[simp] theorem State.offer_eyes (s : State) (e : EventCode) (k : Option Cls) (q : Option Nat) : (s.offer e k q).eyes = s.eyes := rfl
@[simp] theorem State.offer_tagPort (s : State) (e : EventCode) (k : Option Cls) (q : Option Nat) : (s.offer e k q).tagPort = s.tagPort := rfl
@[simp] theorem State.offer_params (s : State) (e : EventCode) (k : Option Cls) (q : Option Nat) : (s.offer e k q).params = s.params := rfl
@[simp] theorem State.offer_expected (s : State) (e : EventCode) (k : Option Cls) (q : Option Nat) : (s.offer e k q).expected = s.expected := rfl
@[simp] theorem State.offer_zone (s : State) (e : EventCode) (k : Option Cls) (q : Option Nat) : (s.offer e k q).zone = s.zone := rfl
@[simp] theorem State.offer_jamAt (s : State) (e : EventCode) (k : Option Cls) (q : Option Nat) : (s.offer e k q).jamAt = s.jamAt := rfl
@[simp] theorem State.offer_spurs (s : State) (e : EventCode) (k : Option Cls) (q : Option Nat) : (s.offer e k q).spurs = s.spurs := rfl
@[simp] theorem State.offer_lastWinner (s : State) (e : EventCode) (k : Option Cls) (q : Option Nat) : (s.offer e k q).lastWinner = s.lastWinner := rfl
@[simp] theorem State.offer_bays (s : State) (e : EventCode) (k : Option Cls) (q : Option Nat) : (s.offer e k q).bays = s.bays := rfl
@[simp] theorem State.offer_lamps (s : State) (e : EventCode) (k : Option Cls) (q : Option Nat) : (s.offer e k q).lamps = s.lamps := rfl
@[simp] theorem State.offer_groups (s : State) (e : EventCode) (k : Option Cls) (q : Option Nat) : (s.offer e k q).groups = s.groups := rfl
@[simp] theorem State.offer_routes (s : State) (e : EventCode) (k : Option Cls) (q : Option Nat) : (s.offer e k q).routes = s.routes := rfl
@[simp] theorem State.offer_credit (s : State) (e : EventCode) (k : Option Cls) (q : Option Nat) : (s.offer e k q).credit = s.credit := rfl
@[simp] theorem State.offer_node (s : State) (e : EventCode) (k : Option Cls) (q : Option Nat) : (s.offer e k q).node = s.node := rfl
@[simp] theorem State.offer_lines (s : State) (e : EventCode) (k : Option Cls) (q : Option Nat) : (s.offer e k q).lines = s.lines := rfl
@[simp] theorem State.offer_reports (s : State) (e : EventCode) (k : Option Cls) (q : Option Nat) : (s.offer e k q).reports = s.reports := rfl
@[simp] theorem State.offer_dropped (s : State) (e : EventCode) (k : Option Cls) (q : Option Nat) : (s.offer e k q).dropped = s.dropped := rfl
@[simp] theorem State.offer_pending (s : State) (e : EventCode) (k : Option Cls) (q : Option Nat) : (s.offer e k q).pending = s.pending := rfl

@[simp] theorem State.offer_counters (s : State) (e : EventCode) (k : Option Cls) (q : Option Nat) :
    (s.offer e k q).counters = s.counters.map (Counter.offered e k q) := rfl

@[simp] theorem State.report_inputs (s : State) (k : ReportKind) (d : Nat) (tag : BitVec 32) (order : BitVec 24) : (s.report k d tag order).inputs = s.inputs := by
  unfold State.report; split <;> rfl
@[simp] theorem State.report_time (s : State) (k : ReportKind) (d : Nat) (tag : BitVec 32) (order : BitVec 24) : (s.report k d tag order).time = s.time := by
  unfold State.report; split <;> rfl
@[simp] theorem State.report_pos (s : State) (k : ReportKind) (d : Nat) (tag : BitVec 32) (order : BitVec 24) : (s.report k d tag order).pos = s.pos := by
  unfold State.report; split <;> rfl
@[simp] theorem State.report_eyes (s : State) (k : ReportKind) (d : Nat) (tag : BitVec 32) (order : BitVec 24) : (s.report k d tag order).eyes = s.eyes := by
  unfold State.report; split <;> rfl
@[simp] theorem State.report_tagPort (s : State) (k : ReportKind) (d : Nat) (tag : BitVec 32) (order : BitVec 24) : (s.report k d tag order).tagPort = s.tagPort := by
  unfold State.report; split <;> rfl
@[simp] theorem State.report_params (s : State) (k : ReportKind) (d : Nat) (tag : BitVec 32) (order : BitVec 24) : (s.report k d tag order).params = s.params := by
  unfold State.report; split <;> rfl
@[simp] theorem State.report_expected (s : State) (k : ReportKind) (d : Nat) (tag : BitVec 32) (order : BitVec 24) : (s.report k d tag order).expected = s.expected := by
  unfold State.report; split <;> rfl
@[simp] theorem State.report_zone (s : State) (k : ReportKind) (d : Nat) (tag : BitVec 32) (order : BitVec 24) : (s.report k d tag order).zone = s.zone := by
  unfold State.report; split <;> rfl
@[simp] theorem State.report_jamAt (s : State) (k : ReportKind) (d : Nat) (tag : BitVec 32) (order : BitVec 24) : (s.report k d tag order).jamAt = s.jamAt := by
  unfold State.report; split <;> rfl
@[simp] theorem State.report_spurs (s : State) (k : ReportKind) (d : Nat) (tag : BitVec 32) (order : BitVec 24) : (s.report k d tag order).spurs = s.spurs := by
  unfold State.report; split <;> rfl
@[simp] theorem State.report_lastWinner (s : State) (k : ReportKind) (d : Nat) (tag : BitVec 32) (order : BitVec 24) : (s.report k d tag order).lastWinner = s.lastWinner := by
  unfold State.report; split <;> rfl
@[simp] theorem State.report_bays (s : State) (k : ReportKind) (d : Nat) (tag : BitVec 32) (order : BitVec 24) : (s.report k d tag order).bays = s.bays := by
  unfold State.report; split <;> rfl
@[simp] theorem State.report_lamps (s : State) (k : ReportKind) (d : Nat) (tag : BitVec 32) (order : BitVec 24) : (s.report k d tag order).lamps = s.lamps := by
  unfold State.report; split <;> rfl
@[simp] theorem State.report_groups (s : State) (k : ReportKind) (d : Nat) (tag : BitVec 32) (order : BitVec 24) : (s.report k d tag order).groups = s.groups := by
  unfold State.report; split <;> rfl
@[simp] theorem State.report_routes (s : State) (k : ReportKind) (d : Nat) (tag : BitVec 32) (order : BitVec 24) : (s.report k d tag order).routes = s.routes := by
  unfold State.report; split <;> rfl
@[simp] theorem State.report_credit (s : State) (k : ReportKind) (d : Nat) (tag : BitVec 32) (order : BitVec 24) : (s.report k d tag order).credit = s.credit := by
  unfold State.report; split <;> rfl
@[simp] theorem State.report_node (s : State) (k : ReportKind) (d : Nat) (tag : BitVec 32) (order : BitVec 24) : (s.report k d tag order).node = s.node := by
  unfold State.report; split <;> rfl
@[simp] theorem State.report_lines (s : State) (k : ReportKind) (d : Nat) (tag : BitVec 32) (order : BitVec 24) : (s.report k d tag order).lines = s.lines := by
  unfold State.report; split <;> rfl
@[simp] theorem State.report_counters (s : State) (k : ReportKind) (d : Nat) (tag : BitVec 32) (order : BitVec 24) : (s.report k d tag order).counters = s.counters := by
  unfold State.report; split <;> rfl
@[simp] theorem State.report_pending (s : State) (k : ReportKind) (d : Nat) (tag : BitVec 32) (order : BitVec 24) : (s.report k d tag order).pending = s.pending := by
  unfold State.report; split <;> rfl

@[simp] theorem State.release_inputs (s : State) (k : Ix) : (s.release k).inputs = s.inputs := rfl
@[simp] theorem State.release_time (s : State) (k : Ix) : (s.release k).time = s.time := rfl
@[simp] theorem State.release_pos (s : State) (k : Ix) : (s.release k).pos = s.pos := rfl
@[simp] theorem State.release_eyes (s : State) (k : Ix) : (s.release k).eyes = s.eyes := rfl
@[simp] theorem State.release_tagPort (s : State) (k : Ix) : (s.release k).tagPort = s.tagPort := rfl
@[simp] theorem State.release_params (s : State) (k : Ix) : (s.release k).params = s.params := rfl
@[simp] theorem State.release_expected (s : State) (k : Ix) : (s.release k).expected = s.expected := rfl
@[simp] theorem State.release_zone (s : State) (k : Ix) : (s.release k).zone = s.zone := rfl
@[simp] theorem State.release_jamAt (s : State) (k : Ix) : (s.release k).jamAt = s.jamAt := rfl
@[simp] theorem State.release_spurs (s : State) (k : Ix) : (s.release k).spurs = s.spurs := rfl
@[simp] theorem State.release_lastWinner (s : State) (k : Ix) : (s.release k).lastWinner = s.lastWinner := rfl
@[simp] theorem State.release_lamps (s : State) (k : Ix) : (s.release k).lamps = s.lamps := rfl
@[simp] theorem State.release_groups (s : State) (k : Ix) : (s.release k).groups = s.groups := rfl
@[simp] theorem State.release_routes (s : State) (k : Ix) : (s.release k).routes = s.routes := rfl
@[simp] theorem State.release_credit (s : State) (k : Ix) : (s.release k).credit = s.credit := rfl
@[simp] theorem State.release_node (s : State) (k : Ix) : (s.release k).node = s.node := rfl
@[simp] theorem State.release_lines (s : State) (k : Ix) : (s.release k).lines = s.lines := rfl
@[simp] theorem State.release_reports (s : State) (k : Ix) : (s.release k).reports = s.reports := rfl
@[simp] theorem State.release_dropped (s : State) (k : Ix) : (s.release k).dropped = s.dropped := rfl
@[simp] theorem State.release_counters (s : State) (k : Ix) : (s.release k).counters = s.counters := rfl
@[simp] theorem State.release_pending (s : State) (k : Ix) : (s.release k).pending = s.pending := rfl

end Sys2Proof.Machine
end

