-- ==== Sys2Proof/Laws/Blocks.lean ====
section
/-! SUPPORT. For each shared operation one lemma that says once which fields it can change: the result is the state
with those fields as the result has them. A proof rewrites with the lemma and reads every other field off it. -/

namespace Sys2Proof.Machine

/-! ### Single updates -/

theorem State.report_frame (k : ReportKind) (d : Nat) (tag : BitVec 32) (order : BitVec 24) (s : State) :
    s.report k d tag order =
      { s with reports := (s.report k d tag order).reports, dropped := (s.report k d tag order).dropped } := by
  unfold State.report; split <;> rfl

theorem State.releaseDecision_frame (d : Decision) (s : State) :
    s.releaseDecision d = { s with bays := (s.releaseDecision d).bays } := by
  cases d <;> rfl

theorem State.reserve_frame (d : Decision) (s : State) : s.reserve d = { s with bays := (s.reserve d).bays } := by
  cases d <;> rfl

theorem State.reportMissing_frame (d : Nat) (ns : List Notice) (s : State) :
    s.reportMissing d ns = { s with
      reports := (s.reportMissing d ns).reports
      dropped := (s.reportMissing d ns).dropped
      counters := (s.reportMissing d ns).counters } := by
  unfold State.reportMissing
  induction ns generalizing s with
  | nil => rfl
  | cons n ns ih =>
    rw [List.foldl_cons, ih]
    simp

theorem State.dropOverdue_frame (s : State) :
    s.dropOverdue = { s with
      expected := s.expected.dropWhile s.overdue
      reports := s.dropOverdue.reports
      dropped := s.dropOverdue.dropped
      counters := s.dropOverdue.counters } := by
  unfold State.dropOverdue
  exact State.reportMissing_frame ..

theorem State.expireTag_frame (s : State) :
    s.expireTag = { s with
      tagPort := { s.tagPort with pending := s.expireTag.tagPort.pending }, counters := s.expireTag.counters } := by
  unfold State.expireTag; split <;> rfl

theorem State.missEffects_frame (c : MissCause) (k : Ix) (i : Ident) (s : State) :
    s.missEffects c k i = { s with
      bays := s.bays.modify k fun b => { b with reserved := b.reserved - 1 }
      reports := (s.missEffects c k i).reports
      dropped := (s.missEffects c k i).dropped
      counters := (s.missEffects c k i).counters } := by
  unfold State.missEffects
  rw [State.report_frame]
  rfl

/-! ### Node Control -/

theorem State.stickSpur_frame (i : Ix) (d : Nat) (s : State) :
    s.stickSpur i d = { s with
      spurs := (s.stickSpur i d).spurs
      bays := (s.stickSpur i d).bays
      reports := (s.stickSpur i d).reports
      dropped := (s.stickSpur i d).dropped } := by
  unfold State.stickSpur
  split
  · split
    · rw [State.report_frame, State.releaseDecision_frame]; rfl
    · rw [State.releaseDecision_frame]; rfl
  · rfl

theorem State.stick_trans {s t u : State}
    (h : t = { s with spurs := t.spurs, bays := t.bays, reports := t.reports, dropped := t.dropped })
    (k : u = { t with spurs := u.spurs, bays := u.bays, reports := u.reports, dropped := u.dropped }) :
    u = { s with spurs := u.spurs, bays := u.bays, reports := u.reports, dropped := u.dropped } :=
  k.trans (by rw [h])

theorem State.enterHalt_frame (c : HaltCause) (s : State) :
    s.enterHalt c = { s with
      node := (s.enterHalt c).node
      spurs := (s.enterHalt c).spurs
      bays := (s.enterHalt c).bays
      reports := (s.enterHalt c).reports
      dropped := (s.enterHalt c).dropped } := by
  unfold State.enterHalt
  split
  · simp only []
    generalize hx : ({ ({ s with node := { s.node with state := .halt, cause := c } } : State).report .halted c.code 0 0 with
      bays := (({ s with node := { s.node with state := .halt, cause := c } } : State).report .halted c.code 0 0).bays.map
        Bay.cutPulse } : State) = x
    have h := State.stick_trans (State.stick_trans (State.stickSpur_frame .i0 3 x) (State.stickSpur_frame .i1 4 _))
      (State.stickSpur_frame .i2 5 _)
    generalize ((x.stickSpur .i0 3).stickSpur .i1 4).stickSpur .i2 5 = r at h
    have hn := congrArg State.node h
    rw [hn]
    refine h.trans ?_
    rw [← hx]
    simp
  · rfl

theorem State.enterHalt_of_not_run {c : HaltCause} {s : State} (h : s.node.state ≠ .run) : s.enterHalt c = s := by
  unfold State.enterHalt
  split
  · contradiction
  · rfl

/-! ### Divert Unit -/

theorem State.testArmed_frame (t : Tote) (s : State) :
    (s.testArmed t).2 = { s with
      bays := (s.testArmed t).2.bays
      reports := (s.testArmed t).2.reports
      dropped := (s.testArmed t).2.dropped
      counters := (s.testArmed t).2.counters } := by
  unfold State.testArmed
  repeat' split
  all_goals first | rfl | (simp only []; rw [State.missEffects_frame])

theorem State.testDivert_frame (t : Tote) (s : State) :
    (s.testDivert t).2 = { s with
      bays := (s.testDivert t).2.bays
      reports := (s.testDivert t).2.reports
      dropped := (s.testDivert t).2.dropped
      counters := (s.testDivert t).2.counters } := by
  unfold State.testDivert
  split
  · split
    · simp only []; rw [State.missEffects_frame]
    · rfl
  · exact State.testArmed_frame ..

theorem walkZone_frame {test : Tote → State → Tote × State}
    (h : ∀ t s, (test t s).2 = { s with
      bays := (test t s).2.bays, reports := (test t s).2.reports
      dropped := (test t s).2.dropped, counters := (test t s).2.counters })
    (l : List Tote) (s : State) :
    (walkZone test l s).2 = { s with
      bays := (walkZone test l s).2.bays
      reports := (walkZone test l s).2.reports
      dropped := (walkZone test l s).2.dropped
      counters := (walkZone test l s).2.counters } := by
  induction l generalizing s with
  | nil => rfl
  | cons t l ih =>
    simp only [walkZone]
    rw [ih (test t s).2, h t s]

theorem State.divertTests_frame {test : Tote → State → Tote × State}
    (h : ∀ t s, (test t s).2 = { s with
      bays := (test t s).2.bays, reports := (test t s).2.reports
      dropped := (test t s).2.dropped, counters := (test t s).2.counters })
    (s : State) :
    s.divertTests test = { s with
      zone := (walkZone test s.zone s).1
      bays := (s.divertTests test).bays
      reports := (s.divertTests test).reports
      dropped := (s.divertTests test).dropped
      counters := (s.divertTests test).counters } := by
  unfold State.divertTests
  simp only []
  rw [walkZone_frame h]

/-! ### Credit Unit -/

theorem State.grantCredits_frame (s : State) : s.grantCredits = { s with credit := s.grantCredits.credit } := rfl

theorem State.claims_frame (s : State) : s.claims = { s with zone := s.claims.zone, credit := s.claims.credit } := by
  unfold State.claims; split <;> rfl

theorem CreditUnit.view_clampView (c : CreditUnit) : c.clampView.view ≤ 16 := by
  unfold CreditUnit.clampView
  split
  · simp [CreditUnit.view]
  · rename_i h; exact Nat.le_of_not_lt h

/-! ### The exit -/

theorem State.queueNotice_frame (f : Frame) (s : State) :
    s.queueNotice f = { s with lines := (s.queueNotice f).lines, counters := (s.queueNotice f).counters } := by
  unfold State.queueNotice; split <;> rfl

theorem State.exitStillLand_frame (t : Tote) (s : State) :
    s.exitStillLand t = { s with
      bays := (s.exitStillLand t).bays
      reports := (s.exitStillLand t).reports
      dropped := (s.exitStillLand t).dropped
      counters := (s.exitStillLand t).counters } := by
  unfold State.exitStillLand
  split
  · rfl
  · rw [State.missEffects_frame]

theorem State.announceExit_frame (t : Tote) (s : State) :
    s.announceExit t = { s with
      credit := (s.announceExit t).credit
      lines := (s.announceExit t).lines
      reports := (s.announceExit t).reports
      dropped := (s.announceExit t).dropped
      counters := (s.announceExit t).counters } := by
  unfold State.announceExit
  split
  · rw [State.report_frame]
  · simp only [State.exitSequence]
    split <;> simp only [] <;> rw [State.queueNotice_frame]

theorem State.exitFront_frame (t : Tote) (rest : List Tote) (s : State) :
    s.exitFront t rest = { s with
      zone := rest
      bays := (s.exitFront t rest).bays
      credit := (s.exitFront t rest).credit
      lines := (s.exitFront t rest).lines
      reports := (s.exitFront t rest).reports
      dropped := (s.exitFront t rest).dropped
      counters := (s.exitFront t rest).counters } := by
  unfold State.exitFront
  simp only []
  rw [State.announceExit_frame, State.exitStillLand_frame]

theorem State.exitLoop_frame (n : Nat) (s : State) :
    State.exitLoop n s = { s with
      zone := (State.exitLoop n s).zone
      bays := (State.exitLoop n s).bays
      credit := (State.exitLoop n s).credit
      lines := (State.exitLoop n s).lines
      reports := (State.exitLoop n s).reports
      dropped := (State.exitLoop n s).dropped
      counters := (State.exitLoop n s).counters } := by
  induction n generalizing s with
  | zero => rfl
  | succ n ih =>
    rw [State.exitLoop]
    split
    · rfl
    · split
      · rw [ih, State.claims_frame, State.exitFront_frame]
      · rfl

theorem State.exitTests_frame (s : State) :
    s.exitTests = { s with
      zone := s.exitTests.zone
      bays := s.exitTests.bays
      credit := s.exitTests.credit
      lines := s.exitTests.lines
      reports := s.exitTests.reports
      dropped := s.exitTests.dropped
      counters := s.exitTests.counters } := by
  unfold State.exitTests
  rw [State.exitLoop_frame, State.claims_frame]

/-! ### Routes and merges -/

theorem State.routeEffects_frame (i : Ident) (stray : Bool) (o : RouteOutcome) (s : State) :
    s.routeEffects i stray o = { s with
      bays := (s.routeEffects i stray o).bays
      reports := (s.routeEffects i stray o).reports
      dropped := (s.routeEffects i stray o).dropped
      counters := (s.routeEffects i stray o).counters } := by
  unfold State.routeEffects
  split
  · split
    · rfl
    · rw [State.report_frame]
  · split
    · rw [State.report_frame]; rfl
    · rw [State.reserve_frame]

theorem State.grantSpur_frame (i : Ix) (s : State) :
    s.grantSpur i = { s with
      spurs := (s.grantSpur i).spurs
      bays := (s.grantSpur i).bays
      reports := (s.grantSpur i).reports
      dropped := (s.grantSpur i).dropped
      counters := (s.grantSpur i).counters } := by
  unfold State.grantSpur
  split
  · rfl
  · simp only []; rw [State.routeEffects_frame]; rfl

theorem State.arbitrate_frame (s : State) :
    s.arbitrate = { s with
      spurs := s.arbitrate.spurs
      lastWinner := s.arbitrate.lastWinner
      bays := s.arbitrate.bays
      reports := s.arbitrate.reports
      dropped := s.arbitrate.dropped
      counters := s.arbitrate.counters } := by
  unfold State.arbitrate
  simp only []
  split
  · rfl
  · rw [State.grantSpur_frame]

theorem State.reTest_frame (s : State) :
    s.reTest = { s with
      spurs := s.reTest.spurs
      lastWinner := s.reTest.lastWinner
      bays := s.reTest.bays
      credit := s.reTest.credit
      reports := s.reTest.reports
      dropped := s.reTest.dropped
      counters := s.reTest.counters } := by
  unfold State.reTest
  rw [State.grantCredits_frame, State.arbitrate_frame]

theorem State.appendEntering_frame (lead : Pos) (i : Ident) (stray noRead : Bool) (s : State) :
    s.appendEntering lead i stray noRead = { s with
      zone := (s.appendEntering lead i stray noRead).zone
      bays := (s.appendEntering lead i stray noRead).bays
      reports := (s.appendEntering lead i stray noRead).reports
      dropped := (s.appendEntering lead i stray noRead).dropped
      counters := (s.appendEntering lead i stray noRead).counters } := by
  unfold State.appendEntering
  simp only []
  rw [State.routeEffects_frame]
  rfl

/-! ### Order assembly -/

theorem State.countLanding_frame (k : Ix) (r : LandingRec) (e : GroupEntry) (s : State) :
    s.countLanding k r e = { s with
      groups := (s.countLanding k r e).groups
      bays := (s.countLanding k r e).bays
      reports := (s.countLanding k r e).reports
      dropped := (s.countLanding k r e).dropped } := by
  unfold State.countLanding State.declareReady
  simp only []
  split
  · rw [State.report_frame]
  · rfl

theorem State.assemblyLanding_frame (k : Ix) (r : LandingRec) (s : State) :
    s.assemblyLanding k r = { s with
      groups := (s.assemblyLanding k r).groups
      bays := (s.assemblyLanding k r).bays
      reports := (s.assemblyLanding k r).reports
      dropped := (s.assemblyLanding k r).dropped } := by
  have single : ∀ (x : State), x.singleLanding k r = { x with
      bays := (x.singleLanding k r).bays, reports := (x.singleLanding k r).reports
      dropped := (x.singleLanding k r).dropped } := by
    intro x; unfold State.singleLanding; rw [State.report_frame]; rfl
  have degraded : ∀ (x : State) (w : ReportKind), x.degradedLanding w k r = { x with
      bays := (x.degradedLanding w k r).bays, reports := (x.degradedLanding w k r).reports
      dropped := (x.degradedLanding w k r).dropped } := by
    intro x w; unfold State.degradedLanding; rw [single, State.report_frame]; rfl
  unfold State.assemblyLanding
  split
  · rw [single]
  · split
    · split
      · rw [degraded]
      · rw [State.countLanding_frame]
    · split
      · rw [State.countLanding_frame]
      · rw [degraded]

theorem State.assemblyTaken_frame (k : Ix) (r : LandingRec) (s : State) :
    s.assemblyTaken k r = { s with
      groups := (s.assemblyTaken k r).groups
      bays := (s.assemblyTaken k r).bays
      reports := (s.assemblyTaken k r).reports
      dropped := (s.assemblyTaken k r).dropped } := by
  unfold State.assemblyTaken State.singleTaken State.memberTaken
  split
  · rw [State.report_frame]; rfl
  · split
    · simp only []
      split <;> split <;> first | rfl | (rw [State.report_frame]; done) | (rw [State.report_frame]; rfl)
    · rfl

theorem State.takeFront_frame (k : Ix) (d : Nat) (s : State) :
    s.takeFront k d = { s with
      groups := (s.takeFront k d).groups
      bays := (s.takeFront k d).bays
      reports := (s.takeFront k d).reports
      dropped := (s.takeFront k d).dropped } := by
  unfold State.takeFront
  split
  · rfl
  · simp only []
    split <;> split <;> first
      | rfl
      | (rw [State.report_frame]; rfl)
      | (rw [State.assemblyTaken_frame]; rfl)
      | (rw [State.assemblyTaken_frame, State.report_frame]; rfl)

theorem State.takeMany_frame (k : Ix) (d n : Nat) (s : State) :
    State.takeMany k d n s = { s with
      groups := (State.takeMany k d n s).groups
      bays := (State.takeMany k d n s).bays
      reports := (State.takeMany k d n s).reports
      dropped := (State.takeMany k d n s).dropped } := by
  induction n generalizing s with
  | zero => rfl
  | succ n ih => rw [State.takeMany, ih, State.takeFront_frame]

/-! ### Line ports -/

theorem State.frameArrives_frame (p : Port) (s : State) :
    s.frameArrives p = { s with lines := (s.frameArrives p).lines, counters := (s.frameArrives p).counters } := by
  unfold State.frameArrives; split <;> rfl

theorem State.forward_frame (p : Port) (f : Frame) (s : State) :
    s.forward p f = { s with lines := (s.forward p f).lines, counters := (s.forward p f).counters } := by
  unfold State.forward; split <;> rfl

theorem State.startFrame_frame (p : Port) (c : Choice) (s : State) :
    s.startFrame p c = { s with
      lines := (s.startFrame p c).lines
      credit := (s.startFrame p c).credit
      reports := (s.startFrame p c).reports
      dropped := (s.startFrame p c).dropped } := by
  unfold State.startFrame
  cases c <;> simp only [] <;> first | rfl | (split <;> rfl)

theorem State.pump_frame (p : Port) (s : State) :
    s.pump p = { s with
      lines := (s.pump p).lines
      credit := (s.pump p).credit
      reports := (s.pump p).reports
      dropped := (s.pump p).dropped } := by
  unfold State.pump
  split
  · rfl
  · split
    · rw [State.startFrame_frame]
    · rfl

theorem State.finish_frame (s : State) :
    s.finish = { s with
      pos := { s.pos with windowDriven := s.pos.windowDriven && s.beltRun }
      lines := s.finish.lines
      credit := s.finish.credit
      reports := s.finish.reports
      dropped := s.finish.dropped } := by
  unfold State.finish
  rw [State.pump_frame, State.pump_frame .U]

/-! ### Timer expiries, the jam position and characters -/

theorem State.onExpiry_of_due {t : Timer} (h : t = some 0) (act : State → State) (s : State) :
    s.onExpiry t act = .next (act s).finish := by
  simp [State.onExpiry, Timer.due, h]

theorem State.onExpiry_of_not_due {t : Timer} (h : t ≠ some 0) (act : State → State) (s : State) :
    s.onExpiry t act = .next s := by
  simp [State.onExpiry, Timer.due, h]

theorem State.setJam_frame (s : State) : s.setJam = { s with jamAt := s.setJam.jamAt } := rfl

/-! ### Edge events -/

theorem State.edgeNow_blockedSince (i : EyeId) (s : State) :
    (s.edgeNow i true).blockedSince = none ∧ (s.edgeNow i false).blockedSince = (s.eyes.get i).since.map Prod.fst :=
  ⟨rfl, rfl⟩

/-- All that an acceptance does. -/
theorem State.acceptEdge_eq (i : EyeId) (b : Bool) (s : State) :
    s.acceptEdge i b = { s with
      eyes := s.eyes.put i ⟨b, 0, if b then some (s.pos.P, s.time.ticks) else none, (s.eyes.get i).waiting ++ [s.edgeNow i b]⟩
      jamAt := if i = .entry then (if b then some (posAdd s.pos.P s.params.jamLen) else none) else s.jamAt } := by
  cases i <;> cases b <;> rfl

/-- All that taking an edge event does. -/
theorem State.takeEdge_eq_some {i : EyeId} {b : Bool} {s t : State} {e : Edge} :
    s.takeEdge i b = some (e, t) ↔
      ∃ rest, (s.eyes.get i).waiting = e :: rest ∧ e.blocked = b ∧
        t = { s with eyes := s.eyes.put i { s.eyes.get i with waiting := rest } } := by
  unfold State.takeEdge
  split
  · next x rest h =>
    split
    · next hb =>
      simp only [h, Option.some.injEq, Prod.mk.injEq, List.cons.injEq]
      exact ⟨fun ⟨he, ht⟩ => ⟨rest, ⟨he, rfl⟩, he ▸ hb, ht.symm⟩, fun ⟨_, ⟨he, hr⟩, _, ht⟩ => ⟨he, hr ▸ ht.symm⟩⟩
    · next hb =>
      simp only [h, List.cons.injEq]
      exact ⟨nofun, fun ⟨_, ⟨he, _⟩, hx, _⟩ => absurd (he ▸ hx) hb⟩
  · next h => simp [h]

theorem State.edge_of_taken {i : EyeId} {b : Bool} {s t : State} {e : Edge} (owner : Edge → State → State)
    (h : (s.acceptNamed i b).takeEdge i b = some (e, t)) : s.edge i b owner = (owner e t).finish := by
  simp [State.edge, h]

theorem State.sampleEye_frame (i : EyeId) (s : State) :
    s.sampleEye i = { s with
      eyes := (s.sampleEye i).eyes, jamAt := (s.sampleEye i).jamAt, pending := (s.sampleEye i).pending } := by
  unfold State.sampleEye
  simp only []
  split
  · rw [State.acceptEdge_eq]
  · rfl

theorem State.sampleEyes_frame (s : State) :
    s.sampleEyes = { s with eyes := s.sampleEyes.eyes, jamAt := s.sampleEyes.jamAt, pending := s.sampleEyes.pending } := by
  unfold State.sampleEyes
  generalize eyeOrder = l
  induction l generalizing s with
  | nil => rfl
  | cons i l ih => rw [List.foldl_cons, ih, State.sampleEye_frame]

theorem State.noticeArrives_of_le {p : List Byte} (h : p.length ≤ 60) (s : State) :
    s.noticeArrives p = s.noticeFrameIn p :=
  if_neg (Nat.not_lt.mpr h)

theorem State.noticeArrives_of_lt {p : List Byte} (h : 60 < p.length) (s : State) :
    s.noticeArrives p = s.frameTooLong .U :=
  if_pos h

/-! ### The position change event -/

theorem State.jamTest_frame (s : State) :
    s.jamTest = { s with
      node := s.jamTest.node
      spurs := s.jamTest.spurs
      bays := s.jamTest.bays
      reports := s.jamTest.reports
      dropped := s.jamTest.dropped } := by
  unfold State.jamTest
  split
  · rw [State.enterHalt_frame]
  · rfl

theorem State.positionChange_frame (s : State) :
    s.positionChange = { s with
      tagPort := { s.tagPort with pending := s.positionChange.tagPort.pending }
      expected := s.positionChange.expected
      zone := s.positionChange.zone
      spurs := s.positionChange.spurs
      lastWinner := s.positionChange.lastWinner
      bays := s.positionChange.bays
      credit := s.positionChange.credit
      node := s.positionChange.node
      lines := s.positionChange.lines
      reports := s.positionChange.reports
      dropped := s.positionChange.dropped
      counters := s.positionChange.counters } := by
  have h1 := State.expireTag_frame s
  have h2 := State.dropOverdue_frame s.expireTag
  have h3 := State.jamTest_frame s.expireTag.dropOverdue
  have h4 := State.divertTests_frame State.testDivert_frame s.expireTag.dropOverdue.jamTest
  have h5 := State.exitTests_frame (s.expireTag.dropOverdue.jamTest.divertTests State.testDivert)
  have h6 := State.reTest_frame (s.expireTag.dropOverdue.jamTest.divertTests State.testDivert).exitTests
  have h0 : s.positionChange = (s.expireTag.dropOverdue.jamTest.divertTests State.testDivert).exitTests.reTest := rfl
  generalize s.positionChange = g at h0 ⊢
  generalize (s.expireTag.dropOverdue.jamTest.divertTests State.testDivert).exitTests.reTest = f at h0 h6
  generalize (s.expireTag.dropOverdue.jamTest.divertTests State.testDivert).exitTests = e at h5 h6
  generalize s.expireTag.dropOverdue.jamTest.divertTests State.testDivert = d at h4 h5
  generalize s.expireTag.dropOverdue.jamTest = c at h3 h4
  generalize s.expireTag.dropOverdue = b at h2 h3
  generalize s.expireTag = a at h1 h2
  subst h0
  have k_inputs : g.inputs = s.inputs := by
    have x := congrArg State.inputs h6; have y := congrArg State.inputs h5; have z := congrArg State.inputs h4
    have u := congrArg State.inputs h3; have v := congrArg State.inputs h2; have w := congrArg State.inputs h1
    exact x.trans (y.trans (z.trans (u.trans (v.trans w))))
  have k_time : g.time = s.time := by
    have x := congrArg State.time h6; have y := congrArg State.time h5; have z := congrArg State.time h4
    have u := congrArg State.time h3; have v := congrArg State.time h2; have w := congrArg State.time h1
    exact x.trans (y.trans (z.trans (u.trans (v.trans w))))
  have k_pos : g.pos = s.pos := by
    have x := congrArg State.pos h6; have y := congrArg State.pos h5; have z := congrArg State.pos h4
    have u := congrArg State.pos h3; have v := congrArg State.pos h2; have w := congrArg State.pos h1
    exact x.trans (y.trans (z.trans (u.trans (v.trans w))))
  have k_eyes : g.eyes = s.eyes := by
    have x := congrArg State.eyes h6; have y := congrArg State.eyes h5; have z := congrArg State.eyes h4
    have u := congrArg State.eyes h3; have v := congrArg State.eyes h2; have w := congrArg State.eyes h1
    exact x.trans (y.trans (z.trans (u.trans (v.trans w))))
  have k_params : g.params = s.params := by
    have x := congrArg State.params h6; have y := congrArg State.params h5; have z := congrArg State.params h4
    have u := congrArg State.params h3; have v := congrArg State.params h2; have w := congrArg State.params h1
    exact x.trans (y.trans (z.trans (u.trans (v.trans w))))
  have k_groups : g.groups = s.groups := by
    have x := congrArg State.groups h6; have y := congrArg State.groups h5; have z := congrArg State.groups h4
    have u := congrArg State.groups h3; have v := congrArg State.groups h2; have w := congrArg State.groups h1
    exact x.trans (y.trans (z.trans (u.trans (v.trans w))))
  have k_routes : g.routes = s.routes := by
    have x := congrArg State.routes h6; have y := congrArg State.routes h5; have z := congrArg State.routes h4
    have u := congrArg State.routes h3; have v := congrArg State.routes h2; have w := congrArg State.routes h1
    exact x.trans (y.trans (z.trans (u.trans (v.trans w))))
  have k_jamAt : g.jamAt = s.jamAt := by
    have x := congrArg State.jamAt h6; have y := congrArg State.jamAt h5; have z := congrArg State.jamAt h4
    have u := congrArg State.jamAt h3; have v := congrArg State.jamAt h2; have w := congrArg State.jamAt h1
    exact x.trans (y.trans (z.trans (u.trans (v.trans w))))
  have k_lamps : g.lamps = s.lamps := by
    have x := congrArg State.lamps h6; have y := congrArg State.lamps h5; have z := congrArg State.lamps h4
    have u := congrArg State.lamps h3; have v := congrArg State.lamps h2; have w := congrArg State.lamps h1
    exact x.trans (y.trans (z.trans (u.trans (v.trans w))))
  have k_pending : g.pending = s.pending := by
    have x := congrArg State.pending h6; have y := congrArg State.pending h5; have z := congrArg State.pending h4
    have u := congrArg State.pending h3; have v := congrArg State.pending h2; have w := congrArg State.pending h1
    exact x.trans (y.trans (z.trans (u.trans (v.trans w))))
  have k_rx : g.tagPort.rx = s.tagPort.rx := by
    have x := congrArg (fun x : State => x.tagPort.rx) h6; have y := congrArg (fun x : State => x.tagPort.rx) h5; have z := congrArg (fun x : State => x.tagPort.rx) h4
    have u := congrArg (fun x : State => x.tagPort.rx) h3; have v := congrArg (fun x : State => x.tagPort.rx) h2; have w := congrArg (fun x : State => x.tagPort.rx) h1
    exact x.trans (y.trans (z.trans (u.trans (v.trans w))))
  clear h1 h2 h3 h4 h5 h6
  rw [← k_inputs, ← k_time, ← k_pos, ← k_eyes, ← k_params, ← k_jamAt, ← k_lamps, ← k_groups, ← k_routes, ← k_pending]
  simp only []
  rw [← k_rx]

/-! ### The step -/

theorem step_of_idle {s : State} (h : s.pending = []) : step s = .next s.samplePeriod := by
  unfold step; rw [h]

end Sys2Proof.Machine
end

