-- ==== Sys2Proof/Tests/Slice0.lean ====
section
/-! SUPPORT. The tests: an ill-formed command for each check of WellFormed, worked values and examples of the spec, and
for each statement with premises a state and operands that meet them, clause by clause. -/

namespace Sys2Proof.Tests

open Sys2Proof.Machine Sys2Proof.Safety Sys2Proof.Claims

/-! ### Small states -/

/-- A request on port U to this node. -/
def ask (p : List Byte) : Request := ⟨.U, false, 0, 0, 7, p⟩

/-- A state in RUN with the emergency stop released. -/
def running : State := { State.reset with node := ⟨.run, .none, false, 0, 61⟩ }

/-- The same in HALT. -/
def halted : State := { running with node := ⟨.halt, .request, false, 0, 61⟩ }

/-- In CONFIG with the emergency stop released. -/
def atRest : State := { running with node := ⟨.config, .none, false, 0, 61⟩ }

def ident (tag : BitVec 32) : Ident := ⟨tag, 5, 3, .rush, .small, none, 7⟩

def noFlags : ToteFlags := ⟨false, false, false, false, false, false, false⟩

def tote (lead : Pos) (t : Track) : Tote := ⟨ident 9, noFlags, lead, t⟩

/-- Bay 0 enabled with two places. -/
def openBay : Params := { Params.default with bay := Params.default.bay.modify .i0 fun b => { b with cap := 2 } }

/-- Spur 0 enabled. -/
def openSpur : Params := { Params.default with spur := Params.default.spur.modify .i0 fun x => { x with enable := 1 } }

def atGate : SpurRec := ⟨ident 4, .atGate, false⟩

/-- Spur 0 in a state with one record at its gate. -/
def withSpur (st : SpurState) (s : State) : State :=
  { s with params := openSpur, spurs := s.spurs.set .i0 ⟨st, [atGate], 0, none, none⟩ }

def landed : LandingRec := ⟨9, 5, .rush, none, false⟩

def member : LandingRec := ⟨9, 5, .rush, some ⟨4, 2, 1⟩, false⟩

def withLane (l : List LandingRec) (s : State) : State := s.modBay .i0 fun b => { b with landing := l }

def withBlocked (i : EyeId) (s : State) : State := withEdge i true s

/-- An eye whose edge event waits for its owner, P having moved on by 100 counts and the high-water mark with it. -/
def withWaiting (i : EyeId) (e : Edge) (s : State) : State :=
  { s with
    pos := { s.pos with P := s.pos.P + 100, Hw := s.pos.Hw + 100 }
    eyes := s.eyes.put i ⟨e.blocked, 0, if e.blocked then some (e.stamp, 0) else none, [e]⟩ }

/-- What holds of the state a command answers. -/
def after (r : Result) (p : State → Bool) : Bool :=
  match r with
  | .next t => p t
  | _ => false

/-! ### WellFormed: each check refuses an ill-formed command -/

theorem test_wf_request_payload : (Instr.bayClear (ask (List.replicate 61 0))).wf = false := by decide

theorem test_wf_request_broadcast_port : (Instr.halt ⟨.D, true, 0, 0, 0, []⟩).wf = false := by decide

theorem test_wf_unknown_kind_known : (Instr.unknownKindRequest 0x10 (ask [])).wf = false := by decide

theorem test_wf_unknown_kind_response : (Instr.unknownKindRequest 0x90 (ask [])).wf = false := by decide

theorem test_wf_notice_group_bit : (Instr.notice [0, 0, 0, 0, 1, 0, 0, 1, 1, 0x04, 1]).wf = false := by decide

theorem test_wf_notice_length : (Instr.notice [0, 0, 0, 0, 1, 0, 0, 1, 1, 0x00]).wf = false := by decide

theorem test_wf_forward_next_hop : (Instr.frameForward .U ⟨0x3E, 0, 1, 0, []⟩).wf = false := by decide

theorem test_wf_drop_payload : (Instr.frameDrop .U ⟨0x05, 0, 1, 0, List.replicate 61 0⟩).wf = false := by decide

theorem test_wf_abandon_empty : (Instr.frameAbandon .U []).wf = false := by decide

theorem test_wf_tag_check :
    (Instr.tagRead [⟨2, false, false⟩, ⟨0, false, false⟩, ⟨0, false, false⟩, ⟨1, false, false⟩, ⟨2, false, false⟩,
      ⟨0, false, false⟩]).wf = false := by decide

theorem test_wf_bad_tag_valid :
    (Instr.badTagRead [⟨2, false, false⟩, ⟨0, false, false⟩, ⟨0, false, false⟩, ⟨1, false, false⟩, ⟨2, false, false⟩,
      ⟨3, false, false⟩]).wf = false := by decide

theorem test_wf_good_request : (Instr.start (ask [])).wf = true := by decide

/-! ### Worked values -/

/-- The remainder of R164 over "123456789" is the published one of this polynomial and start value. -/
theorem test_crc_check_value : crc [0x31, 0x32, 0x33, 0x34, 0x35, 0x36, 0x37, 0x38, 0x39] = 0x29B1 := by decide +kernel

/-- R3: 16,777,215 lies one count behind 0. -/
theorem test_reached_across_wrap : reached 0 16777215 = true ∧ reached 16777215 0 = false := by decide

/-- R9 at S 19, latency 40 and a window of 16 ms: floor((760 + 8) / 16) = 48. -/
theorem test_lead_compensation : leadCompensation 19 40 16 = 48 := by decide

/-- R175: no bay and no spur named. -/
theorem test_bad_setup_bytes : badSetup ⟨1, none, none⟩ = [0x05, 0x01, 0xFF] := by decide

/-- R165: strap values 0, 62 and 63 give address 61. -/
theorem test_addresses : addressOf 0 = 61 ∧ addressOf 1 = 1 ∧ addressOf 61 = 61 ∧ addressOf 62 = 61 ∧ addressOf 63 = 61 := by
  decide

/-- R62: an alternate equal to the primary, and an empty mask, are not well formed. -/
theorem test_route_refused : decodeRoute 1 0x11 = none ∧ decodeRoute 2 0 = none ∧ decodeRoute 3 0 = none := by decide

theorem test_route_land : decodeRoute 1 0xF2 = some (.land .i2 none) ∧ decodeRoute 1 0x02 = some (.land .i2 (some .i0)) := by
  decide

/-- R176: ids at the ends of their blocks. -/
theorem test_parameter_ids :
    ParamId.ofByte 0x19 = some .reportLandings ∧ ParamId.ofByte 0x1A = none ∧ ParamId.ofByte 0x35 = some (.bayConfirm .i2) ∧
      ParamId.ofByte 0x54 = some (.spurReleaseMs .i2) ∧ ParamId.ofByte 0 = none := by decide

/-- R172: an INQUIRE response starts with DONE, part 0330h and revision 01h. -/
theorem test_inquire_identity : ((reqInquire [] .reset).2.take 5) = [0x00, 0x03, 0x30, 0x01, 61] := by decide

/-- R169: after four local frames past a waiting forward queue its head goes first. -/
theorem test_passed_count :
    ({ State.reset with
      lines := { State.reset.lines with
        u := { LinePort.reset with fwd := [⟨0, 1, 2, 3, []⟩], passed := 4, responses := [⟨⟨1, 1, 1, 1, []⟩, false⟩] } } } :
      State).choose .U = some .forward := by decide

/-- R1 and R2 with ENC_DIV 1: a forward transition is one count and carries Hw. -/
theorem test_one_count :
    after (exec (.encoderTransition true false)
      { running with params := { Params.default with encDiv := 1 }, pos := { running.pos with encPrev := some (false, false) } })
      (fun t => decide (t.pos.P = 1) && decide (t.pos.Hw = 1)) = true := by decide

/-- R138: a notice at o = 0 in SYNC is reported and leaves the side LOCKED at q + 1. -/
theorem test_notice_beyond_credit :
    after (exec (.notice [9, 0, 0, 0, 1, 0, 0, 1, 1, 0, 1]) { running with params := { Params.default with upLimit := 0 } })
      (fun t => decide (t.credit.r = 10) && decide (t.credit.o = 0) && decide (t.expected.length = 1) &&
        decide (t.reports.length = 0) && t.lines.u.tx.isSome) = true := by decide

/-- R155: an e-stop assertion in RUN halts with HALTED, cause E_STOP, and belt-run goes off. -/
theorem test_estop_halts :
    after (exec .eStopAssertion running) (fun t => decide (t.node.state = .halt) && decide (t.node.cause = .eStop) && !t.beltRun) =
      true := by decide

/-- R170: the NODE RESET response is sent before the reset; while it is only queued no reset follows. -/
theorem test_node_reset_waits :
    after (exec (.nodeReset (ask [])) running)
      (fun t => decide (t.node.state = .run) && t.resetOutstanding .U && !t.resetOutstanding .D) = true ∧
    (running.modPort .U fun x => { x with
      tx := some ⟨⟨0, 61, 0x90, 0, [0]⟩, false⟩, responses := [⟨⟨0, 61, 0xA1, 0, [0, 1]⟩, true⟩] }).resetOutstanding .U =
      false := by decide

/-- R54, R60: the jam position is 1,500 counts past the blocked edge, and a later JAM_LEN does not move it. -/
theorem test_jam_position_is_kept :
    after (exec .entryEyeBlocked running)
      (fun t => decide (t.jamAt = some 1500) && decide ((t.writeParam .jamLen 300).jamAt = some 1500)) = true ∧
    after (exec .entryEyeClear (withBlocked .entry running)) (fun t => decide (t.jamAt = none)) = true := by decide

/-- R133: an expiry taken after the rise that restarted the timer does not come; one at its last tick does. -/
theorem test_expiry_after_a_rise :
    after (exec (.chimeExpiry .i0) (running.modBay .i0 fun b => { b with chime := some 400 }))
      (fun t => decide ((t.bays.get .i0).chime = some 400)) = true ∧
    after (exec (.lampStepExpiry .i0) (running.modBay .i0 fun b => { b with lamp := 1, lampTimer := some 0 }))
      (fun t => decide ((t.bays.get .i0).lamp = 2) && decide ((t.bays.get .i0).lampTimer = some 20000)) = true := by decide

/-- R132: a level set in a period shows from the next period on, level 2 then for 4.375 of its 5 ms. -/
theorem test_lamp_level_waits_for_its_period :
    after (exec .millisecondTick { running.modBay .i0 (fun b => { b with lamp := 2 }) with lamps := ⟨3, .const 0⟩ })
      (fun t => !t.lampOn .i0) = true ∧
    after (exec .millisecondTick { running.modBay .i0 (fun b => { b with lamp := 2 }) with lamps := ⟨4, .const 0⟩ })
      (fun t => t.lampOn .i0 && decide (t.outputs.duty.get .i0 = 7)) = true ∧
    ({ running with lamps := ⟨4, .const 2⟩, time := ⟨0, 1⟩ } : State).lampOn .i0 = true ∧
    ({ running with lamps := ⟨4, .const 2⟩, time := ⟨0, 2⟩ } : State).lampOn .i0 = false := by decide

/-- R162: 41h with its mark is low, then 1 0 0 0 0 0 1 0, the mark and a high stop bit. -/
theorem test_character_bits :
    (⟨0x41, true, false, false⟩ : LineChar).bits =
      [false, true, false, false, false, false, false, true, false, true, true] := by decide

/-- Log 25: a marked character with a framing error abandons the frame and starts none; without the error it starts one. -/
theorem test_marked_character_with_a_framing_error :
    rxChar (.inFrame [1]) ⟨2, true, true, false⟩ = (.idle, .abandoned) ∧
      rxChar (.inFrame [1]) ⟨2, true, false, false⟩ = (.inFrame [2], .abandoned) := by decide

/-- R163: a NOTICE of 61 bytes is abandoned, not dropped. -/
theorem test_long_notice_is_abandoned :
    after (exec (.notice (List.replicate 61 0)) { running with
      counters := [⟨.checkError, 3, 1, 0⟩, ⟨.frameDrop, 3, 1, 0⟩] })
      (fun t => decide (t.counters.map Counter.value = [1, 0])) = true := by decide

/-- R172: a riding zone record with NO_READ, MISSED and a claim; the granted front record of a spur, a stray that overflowed
with LAND at bay 2; an UNEXPECTED landing. Each is read alone from its list. -/
theorem test_list_records :
    (reqListRead [1, 0] { running with
        zone := [⟨ident 9, { noFlags with noRead := true, missed := true }, 0x0102FF, .riding 600 (some 7)⟩] }).2 =
      [0x00, 1, 1, 0, 0, 0, 9, 0, 0, 5, 3, 0x11, 0x51, 0, 0, 0, 1, 2, 255, 0x02, 0x58, 7] ∧
    (reqListRead [2, 0] { running with
        spurs := running.spurs.set .i0 ⟨.granted ⟨0x030201, .land .i2, true, false⟩,
          [⟨⟨0, 0, 3, .rush, .large, some ⟨260, 8, 1⟩, 1⟩, .atGate, true⟩], 0, none, none⟩ }).2 =
      [0x00, 1, 1, 0, 0, 0, 0, 0, 0, 0, 3, 0x8F, 0x8D, 1, 4, 0x81, 3, 2, 1, 0, 0, 0] ∧
    (reqListRead [5, 0] (withLane [⟨0, 0, .staged, none, true⟩] running)).2 =
      [0x00, 1, 1, 0, 0, 0, 0, 0, 0, 0, 0, 0x00, 0x01, 0, 0, 0, 0, 0, 0, 0, 0, 0] := by decide

/-- R172: kind 15h, detail, tag and order high byte first. -/
theorem test_report_entry :
    Report.bytes ⟨.spurStray, 2, 0x01020304, 0x050607⟩ = [0x15, 2, 1, 2, 3, 4, 5, 6, 7] := by decide

/-- R97, R128: BAY CLEAR of one tote at bay 0 reports TAKEN with detail 3, then ORDER_COLLECTED at bay 0. -/
theorem test_bay_clear_reports :
    ((reqBayClear [0, 1] (withLane [landed] running)).1.reports.map fun r => (r.kind, r.detail)) =
      [(.taken, 3), (.orderCollected, 0)] := by decide

/-- The candidate past its hold point without a view, held. -/
def heldExit : State :=
  { running with
    pos := { running.pos with P := 5400 }
    zone := [tote 0 (.riding 600 none)]
    credit := { running.credit with exitHold := true } }

/-- The held candidate one count behind its hold position, with a view of v. -/
def heldBehind (v : Byte) : State :=
  { heldExit with
    pos := { heldExit.pos with P := 5399 }
    credit := { heldExit.credit with G := v } }

/-- R4, log 15: jogged back behind its hold position a held candidate stays held; with a view it claims. -/
theorem test_held_candidate_behind_its_hold_position :
    (heldBehind 0).claims = heldBehind 0 ∧ (heldBehind 1).claims.zone = [tote 0 (.riding 600 (some 0))] ∧
      (heldBehind 1).claims.credit.exitHold = false := by decide

/-- The table spells no bits, so no word is a command (log 20). -/
theorem test_no_table_words : decodeTableWord 16 0 = none := by decide

/-! ### Premises: the machine, position and inputs -/

theorem witness_StepTakesFrontCommand :
    ({ State.reset with pending := [.powerOn] } : State).pending = Instr.powerOn :: [] := by decide

/-- The entry eye blocked since position 5, P at 9, the beam clear at three samples. -/
def clearing : State :=
  { running with
    pos := { running.pos with P := 9, Hw := 9 }
    eyes := { running.eyes with entry := ⟨true, 3, some (5, 0), []⟩ } }

/-- The hypothesis, and each outcome of a sample: the beam as the eye stands, the change accepted, one sample short of it. -/
theorem witness_IdleStepSamplesThePins :
    clearing.pending = [] ∧ beam clearing.inputs .entry ≠ (clearing.eyes.get .entry).blocked ∧
      filterSetting clearing.params .entry ≤ (clearing.eyes.get .entry).count + 1 ∧
      beam clearing.inputs (.gate .i0) = (clearing.eyes.get (.gate .i0)).blocked ∧
      ¬ filterSetting clearing.params .entry ≤ 2 + 1 := by decide

/-- R10 to R12: the fourth differing sample accepts the clear edge; its event carries the stamp, the high-water flag and the
blocked-since position, which the eye then no longer holds. -/
theorem test_clear_edge_carries_blocked_since :
    after (step clearing) (fun t => decide (t.eyes.entry = ⟨false, 0, none, [⟨false, 9, true, some 5⟩]⟩) &&
      decide (t.pending = [.entryEyeClear])) = true := by decide

/-- R11, R43: the new record's lead is the stamp of the edge, accepted 100 counts before the Tracker takes it. -/
theorem test_lead_is_the_stamp :
    after (exec .entryEyeBlocked (withWaiting .entry ⟨true, 0, true, none⟩ running))
      (fun t => decide (t.zone.map Tote.lead = [0]) && decide (t.eyes.entry.waiting = [])) = true ∧
    after (exec .entryEyeBlocked (withWaiting .entry ⟨true, 0, false, none⟩ running)) (fun t => decide (t.zone = [])) = true := by
  decide

/-- R91, R12: a chute jam timer started 100 ticks after the blocked edge has 100 ticks less to run. -/
theorem test_chute_jam_from_blocked_since :
    after (exec (.confirmEyeBlocked .i0)
        { withWaiting (.confirm .i0) ⟨true, 0, true, none⟩ running with time := ⟨100, 0⟩ })
      (fun t => decide ((t.bays.get .i0).chuteJam = some 2900)) = true := by decide

/-- Port U sending a NODE RESET response. -/
def resetting : State := State.reset.modPort .U fun x => { x with tx := some ⟨⟨0, 61, 0xA1, 0, [0, 0]⟩, true⟩ }

theorem witness_ResetsLeaveTheGivenValues :
    resetWaits .U resetting ∧ ¬ resetWaits .D resetting ∧
      (resetting.lines.get .U).tx = some ⟨⟨0, 61, 0xA1, 0, [0, 0]⟩, true⟩ := by
  refine ⟨⟨⟨⟨0, 61, 0xA1, 0, [0, 0]⟩, true⟩, rfl, rfl⟩, ?_, rfl⟩
  rintro ⟨f, hf, h⟩
  exact absurd h (by rw [show (resetting.lines.get .D).tx = none from rfl]; exact nofun)

/-- Each clause of MovesRunEveryTest at the boundary of the sub-count, and the invalid count at 4 and above. -/
theorem witness_MovesRunEveryTest :
    ((false, false), (true, false)) ∈ forwardMoves ∧
      (running.params.encDiv : Int) ≤ 3 + 1 ∧ (2 : Int) + 1 < running.params.encDiv ∧
      (-3 : Int) - 1 ≤ -(running.params.encDiv : Int) ∧ -(running.params.encDiv : Int) < (-2 : Int) - 1 ∧
      running.node.state = .run ∧ 4 < min 255 (4 + 1) ∧ min 255 (3 + 1) ≤ 4 ∧ halted.node.state ≠ .run := by decide

/-- A driven window of 16 ms without a move, at a stall limit of 100 ms. -/
def stalling (stall : Nat) (s : State) : State :=
  { s with
    pos := { s.pos with windowDriven := true, stall := stall }
    params := { s.params with stallMs := 100 } }

theorem witness_SpeedSampleMeasuresTheBelt :
    (stalling 84 running).node.state = .run ∧ (stalling 84 running).pos.windowDriven = true ∧
      (stalling 84 running).params.stallMs ≤ (stalling 84 running).pos.stall + (stalling 84 running).pos.windowLen ∧
      ¬ (stalling 83 running).params.stallMs ≤ (stalling 83 running).pos.stall + (stalling 83 running).pos.windowLen ∧
      halted.node.state ≠ .run := by decide

theorem witness_EyeEdgesAreAcceptedOnce :
    (running.eyes.get .entry).blocked ≠ true ∧ (running.eyes.get .entry).blocked = false ∧
      ((withBlocked (.gate .i1) running).eyes.get (.gate .i1)).blocked = true ∧
      noEdge .entry false running ∧ ¬ noEdge .entry true running ∧
      edgeTaken .entry true running (edgeEvent .entry true running) (withEdge .entry true running) ∧
      (running.eyes.get .entry).waiting = [] ∧
      ((withWaiting .entry ⟨true, 0, true, none⟩ running).eyes.get .entry).waiting = [⟨true, 0, true, none⟩] ∧
      noEdge .entry false (withWaiting .entry ⟨true, 0, true, none⟩ running) := by
  refine ⟨by decide, by decide, by decide, .inr ⟨rfl, rfl⟩, ?_, .inr ⟨rfl, by decide, rfl, rfl⟩, rfl, rfl,
    .inl ⟨_, _, rfl, by decide⟩⟩
  rintro (⟨e, rest, h, -⟩ | ⟨-, h⟩)
  · exact absurd h nofun
  · exact absurd h (by decide)

/-- Spur 0 GRANTED, the last tick of both its timers taken. -/
def releasing : State :=
  { running with
    params := openSpur
    spurs := running.spurs.set .i0 ⟨.granted ⟨0, .pass, false, false⟩, [atGate], 0, some 0, some 0⟩ }

/-- The last tick of every timer of bay 0 taken. -/
def lastTick : State :=
  running.modBay .i0 fun b => { b with lampTimer := some 0, chuteJam := some 0, paddle := some 0, chime := some 0 }

theorem witness_TimerExpiriesActAsTheirOwnersSay :
    ((lastTick.bays.get .i0).lampTimer = some 0 ∧ (lastTick.bays.get .i0).chuteJam = some 0 ∧
        (lastTick.bays.get .i0).paddle = some 0 ∧ (lastTick.bays.get .i0).chime = some 0) ∧
      (releasing.spurs.get .i0).st = .granted ⟨0, .pass, false, false⟩ ∧ (releasing.spurs.get .i0).list = [atGate] ∧
      (releasing.spurs.get .i0).releaseTimer = some 0 ∧ (releasing.spurs.get .i0).gateTimer = some 0 ∧
      (running.bays.get .i0).lampTimer ≠ some 0 ∧ (running.bays.get .i0).chuteJam ≠ some 0 ∧
      ((running.modBay .i0 fun b => { b with paddle := some 1 }).bays.get .i0).paddle ≠ some 0 ∧
      (running.bays.get .i0).chime ≠ some 0 ∧ (running.spurs.get .i0).gateTimer ≠ some 0 ∧
      (running.spurs.get .i0).releaseTimer ≠ some 0 := by decide

theorem witness_TagReadsBecomeThePendingTag :
    running.tagPort.rx = .awaitStart ∧ ((3 : Byte) = 0 ^^^ 0 ^^^ 1 ^^^ 2 ∧ ((0 : Byte) ++ (0 : Byte) ++ (1 : Byte) ++ (2 : Byte)) ≠ 0#32) ∧
      ({ running with params := { Params.default with tagEnable := 1 } } : State).params.tagEnable = 1 ∧
      running.params.tagEnable ≠ 1 ∧ ¬ ((0 : Byte) = 0 ^^^ 0 ^^^ 1 ^^^ 2) ∧ ([] : List Byte).length ≤ 4 ∧
      ([2, 2, 2, 2] : List Byte).length ≤ 4 ∧ (0 : Byte) ≠ 0x02 ∧ ¬ ((0x02 : Byte) ≠ 0x02 ∨ false = true) := by decide

theorem witness_EmergencyStopEdges :
    State.reset.node.estopActive = true ∧ running.node.estopActive = false ∧ running.node.state = .run ∧
      halted.node.estopActive = false ∧ halted.node.state ≠ .run := by decide

theorem witness_EnteringHaltStopsWhatPushes :
    releasing.node.state = .run ∧ releasing.reports.length ≤ 12 ∧ halted.node.state ≠ .run := by decide

/-! ### Premises: requests -/

/-- A request of any payload the bus carries reaches the Management Unit of a state with no response waiting. -/
theorem delivered_ask (p : List Byte) (h : p.length ≤ 60) (s : State) (hs : (s.lines.get .U).responses = []) :
    delivered (ask p) s := ⟨rfl, h, by show (s.lines.get .U).responses.length < 4; rw [hs]; decide⟩

theorem witness_RequestsAreAnsweredOnTheirPort : delivered (ask []) running ∧ otherKind 0x22 ∧ otherKind 0x0F ∧ otherKind 0x04 ∧ otherKind 0x7F :=
  ⟨delivered_ask [] (by decide) running rfl, by unfold otherKind; decide⟩

/-- Port U with four responses waiting. -/
def fullUp : State := running.modPort .U fun x => { x with responses := List.replicate 4 ⟨⟨0, 0, 0, 0, []⟩, false⟩ }

theorem witness_RequestsWithoutAnAnswer :
    60 < (ask (List.replicate 61 0)).payload.length ∧
      ((ask []).broadcast = false ∧ 4 ≤ (fullUp.lines.get (ask []).port).responses.length) ∧
      ((⟨.D, true, 0, 0, 0, []⟩ : Request).broadcast = true ∧ (⟨.D, true, 0, 0, 0, []⟩ : Request).port = .D) ∧
      (⟨.U, true, 0, 0, 0, []⟩ : Request).broadcast = true ∧ otherKind 0x24 := by unfold otherKind; decide

theorem witness_RefusedRequestsChangeNothing :
    (handlerOf 0x10 [1] State.reset).2.head? ≠ some 0x00 ∧ ([1] : List Byte).length ∉ [0] ∧ (0x10, [0]) ∈ fixedLengths ∧
      ¬ (([1] : List Byte).length % 3 = 0) ∧ ¬ 1 ≤ ([] : List Byte).length := by decide

theorem witness_ReadsCopyTheState :
    delivered (ask []) running ∧ (ask []).payload = [] ∧
      (delivered (ask [0x01, 0x54]) running ∧ ∀ id ∈ (ask [0x01, 0x54]).payload, (ParamId.ofByte id).isSome = true) ∧
      ((ask [1, 127, 28]).payload = [1, 127, 28] ∧ (running.frameArrives .U).routes.active.length = 128 ∧
        (running.frameArrives .U).routes.standby.length = 128) ∧
      ((ask [5, 0]).payload = [5, 0] ∧
        (readableLists ((withLane [landed] running).frameArrives .U))[5]? = some [landingRecord landed]) ∧
      ((ask [7, 0]).payload = [7, 0] ∧ (readableLists (running.frameArrives .U))[7]? = some []) ∧
      ((ask [0x01, 0x1A]).payload = [0x01] ++ 0x1A :: [] ∧ ParamId.ofByte 0x1A = none) ∧
      ((ask [2, 0, 1]).payload = [2, 0, 1] ∧ 2 ≤ (2 : Byte).toNat ∧ (1 : Byte).toNat ≤ 1 ∧ 128 ≤ (128 : Byte).toNat ∧
        (127 : Byte).toNat ≤ 127 ∧ (0 : Byte).toNat = 0 ∧ 29 ≤ (29 : Byte).toNat) ∧
      ((ask [8, 0]).payload = [8, 0] ∧ 8 ≤ (8 : Byte).toNat ∧ (7 : Byte).toNat ≤ 7) :=
  ⟨delivered_ask [] (by decide) running rfl, rfl,
    ⟨delivered_ask _ (by decide) running rfl, by decide⟩, by decide +kernel, by decide, by decide, by decide, by decide,
    by decide⟩

theorem witness_SetParametersIsAllOrNothing :
    (delivered (ask [0x10, 0, 60]) atRest ∧ pairsPass [0x10, 0, 60] (atRest.frameArrives .U)) ∧
      (delivered (ask [0x10, 0, 60]) running ∧ ¬ pairsPass [0x10, 0, 60] (running.frameArrives .U)) ∧
      (0x10 ∉ ((triplesOf [0x01, 0, 8, 0x0F, 0, 0]).map Prod.fst) ∧ (0x0F, 0) ∈ triplesOf [0x01, 0, 8, 0x0F, 0, 0]) ∧
      (ParamId.ofByte 0x1A = none ∧ ParamId.ofByte 0x10 = some .tagHold ∧ ParamId.tagHold.valueOk 49 = false ∧
        ParamId.tagHold.valueOk 50 = true) := by
  refine ⟨⟨delivered_ask _ (by decide) atRest rfl, ?_⟩, ⟨delivered_ask _ (by decide) running rfl, ?_⟩, by decide, by decide⟩
  · intro x hx
    rw [show triplesOf [0x10, 0, 60] = [(0x10, 60)] from rfl, List.mem_singleton] at hx
    subst hx
    exact ⟨.tagHold, by decide, by decide, fun _ => by decide⟩
  · intro h
    obtain ⟨id, h1, -, h3⟩ := h (0x10, 60) (by decide)
    obtain rfl : id = .tagHold := (Option.some.inj ((by decide : ParamId.ofByte 0x10 = some .tagHold).symm.trans h1)).symm
    exact absurd (h3 (by decide)) (by decide)

theorem witness_RouteTableIsWrittenAndCommitted :
    routeSound (.land .i0 (some .i1)) ∧ decodeRoute 2 7 = some (.best ⟨true, true, true⟩) ∧
      (delivered (ask [127, 1, 1, 0xF0]) running ∧ ([1, 0xF0] : List Byte)[2 * 0]? = some 1 ∧
        ([1, 0xF0] : List Byte)[2 * 0 + 1]? = some 0xF0 ∧ decodeRoute 1 0xF0 = some (.land .i0 none) ∧ 127 + 0 ≠ 0 ∧
        (running.frameArrives .U).routes.standby.length = 128) ∧
      (delivered (ask [0, 1, 1, 0xF0]) running ∧ ¬ (RouteEntry.land .i0 none = .pass) ∧ decodeRoute 3 0 = none) ∧
      (ask []).payload = [] ∧
      (∀ first count es, (ask [0, 1, 1]).payload = first :: count :: es → es.length = 2 * count.toNat → 1 ≤ count.toNat →
        count.toNat ≤ 28 → False) ∧
      129 ≤ (128 : Byte).toNat + (1 : Byte).toNat :=
  ⟨⟨by rintro p a ⟨⟩; decide, by decide⟩, by decide,
    ⟨delivered_ask _ (by decide) running rfl, by decide, by decide, by decide, by decide, by decide +kernel⟩,
    ⟨delivered_ask _ (by decide) running rfl, by decide, by decide⟩, rfl, by rintro a b c ⟨⟩ h; exact absurd h (by decide), by decide⟩

/-- A SPUR NOTICE for spur 0 with tag 1. -/
def announce (tag spur : Byte) : List Byte := [spur, 0, 0, 0, tag, 0, 0, 5, 3, 1]

theorem witness_SpurRequestsAnnounceAndRestore :
    (delivered (ask (announce 1 0)) (withSpur .waiting running) ∧
      (decodeSpurNotice 61 (announce 1 0)).isSome = true ∧ spurTakes .i0 (ident 1) (withSpur .waiting running)) ∧
      ((withSpur .waiting atRest).node.state = .config ∧ (running.params.spur.get .i0).enable ≠ 1) ∧
      6 ≤ (((withSpur .waiting running).modSpur .i0 fun x => { x with list := List.replicate 6 atGate }).spurs.get .i0).list.length ∧
      (¬ spurTakes .i0 (ident 4) (withSpur .waiting running)) ∧
      (decodeSpurNotice 61 (announce 1 3)).isSome = true ∧
      ((ask [0]).payload = [0] ∧ ((withSpur .blocked running).spurs.get .i0).st = .blocked ∧
        ((withBlocked (.gate .i0) (withSpur .blocked running)).eyes.get (.gate .i0)).blocked = true ∧
        ((withSpur .blocked running).eyes.gate.get .i0).blocked = false) ∧
      ((withSpur .waiting running).spurs.get .i0).st ≠ .blocked ∧ 3 ≤ (3 : Byte).toNat ∧
      ((announce 1 0).set 9 4).length = 10 ∧ ((announce 1 0).set 9 4)[9]? = some 4 ∧ (4 : Byte).getLsbD 2 = true ∧
      (announce 1 0 ++ [0, 1, 0x21]).length = 13 ∧ (announce 1 0 ++ [0, 1, 0x21])[9]? = some 1 ∧
      (1 : Byte).getLsbD 2 = false := by
  refine ⟨⟨delivered_ask _ (by decide) _ rfl, by decide, by decide, by decide, by decide, fun _ => ⟨nofun, ?_⟩⟩, by decide,
    by decide, ?_, by decide, by decide, by decide, by decide, by decide, by decide, by decide, by decide, by decide, by decide⟩
  · intro j r hr
    cases j
    · rw [show ((withSpur .waiting running).spurs.get .i0).list = [atGate] from rfl, List.mem_singleton] at hr
      subst hr; decide
    · exact absurd hr nofun
    · exact absurd hr nofun
  · intro h
    exact (h.2.2.2 (by decide)).2 .i0 atGate (by decide) rfl

theorem witness_BayClearTakesRecordsFromTheFront :
    delivered (ask [0, 8]) (withLane [landed] running) ∧ (0 : Byte).toNat = Ix.i0.toNat ∧ (8 : Byte).toNat ≤ 8 ∧
      3 ≤ (3 : Byte).toNat ∧ (2 : Byte).toNat ≤ 2 ∧ 9 ≤ (9 : Byte).toNat :=
  ⟨delivered_ask _ (by decide) _ rfl, by decide, by decide, by decide, by decide, by decide⟩

theorem witness_CountersAreSetUpAndCleared :
    delivered (ask [3, 0x11, 3, 15]) running ∧ (EventCode.takenUnknown, 0x11) ∈ eventCodes ∧ 4 ≤ (4 : Byte).toNat ∧
      0x12 ≤ (0x12 : Byte).toNat ∧ 16 ≤ (16 : Byte).toNat ∧ (15 : Byte).toNat ≤ 15 ∧
      running.counters[3]? = some ⟨.none, 0, 0, 0⟩ ∧
      Counter.offered .mergeDone (some .rush) (some 2) ⟨.mergeDone, 1, 4, 4294967295⟩ = ⟨.mergeDone, 1, 4, 4294967295⟩ ∧
      Counter.offered .mergeDone (some .rush) (some 2) ⟨.mergeDone, 1, 4, 0⟩ = ⟨.mergeDone, 1, 4, 1⟩ ∧
      Counter.offered .mergeDone (some .staged) (some 2) ⟨.mergeDone, 1, 4, 0⟩ = ⟨.mergeDone, 1, 4, 0⟩ :=
  ⟨delivered_ask _ (by decide) _ rfl, by decide, by decide, by decide, by decide, by decide, by decide, by decide, by decide,
    by decide⟩

/-- A set that fails C1 alone, one that fails C5 at bay 1, and one that fails C8. -/
theorem witness_SetupConstraintsAreTested :
    Params.default.setupFault = none ∧
      ({ Params.default with holdPoint := 6000 } : Params).setupFault = some ⟨1, none, none⟩ ∧
      ({ Params.default with bay := Params.default.bay.set .i1 ⟨1, 1, 3000, 40, 120, 500⟩ } : Params).setupFault =
        some ⟨5, none, some .i1⟩ ∧
      ({ openSpur with bay := Params.default.bay.set .i1 ⟨2, 1, 3000, 40, 120, 500⟩ } : Params).setupFault =
        some ⟨8, some .i0, some .i1⟩ ∧
      (⟨8, some .i0, some .i1⟩ : SetupFault) ∈ setupOrder := by decide

theorem witness_StartTakesTheNodeIntoRun :
    (delivered (ask []) atRest ∧ atRest.node.state = .config ∧ atRest.node.estopActive = false ∧
      (atRest.frameArrives .U).params.setupFault = none) ∧
      running.node.state ≠ .config ∧ (State.reset.node.state = .config ∧ State.reset.node.estopActive = true) ∧
      ({ atRest with params := { Params.default with holdPoint := 6000 } } : State).params.setupFault = some ⟨1, none, none⟩ :=
  ⟨⟨delivered_ask _ (by decide) _ rfl, by decide, by decide, by decide⟩, by decide, by decide, by decide⟩

theorem witness_HaltAndResumeRequests :
    delivered (ask []) running ∧ delivered (ask []) halted ∧ running.node.state = .run ∧ halted.node.state = .halt ∧
      atRest.node.state = .config ∧ (halted.node.estopActive = false ∧ halted.eyes.entry.blocked = false) ∧
      (withBlocked .entry halted).eyes.entry.blocked = true :=
  ⟨delivered_ask _ (by decide) _ rfl, delivered_ask _ (by decide) _ rfl, by decide, by decide, by decide, by decide, by decide⟩

theorem witness_ConfigEntryEmptiesTheZoneSide :
    delivered (ask []) releasing ∧ releasing.node.state ≠ .config ∧ atRest.node.state = .config :=
  ⟨delivered_ask _ (by decide) _ rfl, by decide, by decide⟩

/-! ### Premises: credits, notices, claims and exits -/

/-- A NOTICE with sequence number q, tag 1 and no group part. -/
def aNotice (q : Byte) : List Byte := [q, 0, 0, 0, 1, 0, 0, 5, 3, 1, 7]

def noticed : Ident := ⟨1, 5, 3, .rush, .small, none, 7⟩

/-- LOCKED with two credits outstanding, r = 4. -/
def locked : State := { running with credit := { running.credit with mode := .locked, o := 2, r := 4, g := 6 } }

/-- Gaps of 0, 127 and 128; two credits left, none left, overdrawn by the first. -/
theorem witness_NoticesAreCountedAgainstTheCredits :
    decodeNotice (aNotice 4) = some (4, noticed) ∧ decodeNotice [0] = none ∧ 60 < (List.replicate 61 (0 : Byte)).length ∧
      ([0] : List Byte).length ≤ 60 ∧ running.credit.mode = .sync ∧
      locked.credit.mode = .locked ∧ 128 ≤ ((132 : Byte) - locked.credit.r).toNat ∧
      (((131 : Byte) - locked.credit.r).toNat < 128 ∧ 128 ≤ (locked.credit.g - ((131 : Byte) + 1)).toNat) ∧
      (((5 : Byte) - locked.credit.r).toNat < 128 ∧ (locked.credit.g - ((5 : Byte) + 1)).toNat < 128) ∧
      128 ≤ (locked.credit.g - ((6 : Byte) + 1)).toNat := by decide

theorem witness_TrackerAdmitsNoticesAndDropsOverdueOnes :
    atRest.node.state = .config ∧ running.node.state ≠ .config ∧
      16 ≤ ({ running with expected := List.replicate 16 ⟨noticed, 0⟩ } : State).expected.length ∧
      ¬ 16 ≤ running.expected.length ∧
      (noticed.tag ≠ 0 ∧ ∃ n ∈ ({ running with expected := [⟨noticed, 0⟩] } : State).expected, n.ident.tag = noticed.tag) ∧
      ({ running with reports := [] } : State).reports.length + 1 ≤ 16 := by
  exact ⟨by decide, by decide, by decide, by decide, ⟨by decide, ⟨noticed, 0⟩, by decide, rfl⟩, by decide⟩

/-- A view of 16 stands and one of 17 resynchronises. -/
theorem witness_CreditFramesSetTheView :
    State.reset.credit.unsynced = true ∧ ({ running.credit with unsynced := false } : CreditUnit).unsynced = false ∧
      ((16 : Byte) - running.credit.s).toNat ≤ 16 ∧ 16 < ((17 : Byte) - running.credit.s).toNat := by decide

theorem witness_GrantsRepeatUntilAConditionFails :
    running.credit.waiting ≤ 16 ∧ running.params.upLimit ≤ 4 ∧ (grantOnce running).isSome = true := by decide

theorem witness_ClaimsAreMadeInZoneOrder :
    ({ running with params := { Params.default with terminal := 1 } } : State).params.terminal = 1 ∧
      heldExit.params.terminal ≠ 1 ∧ heldExit.credit.exitHold = true ∧
      candidateSplit heldExit.zone = some ([], tote 0 (.riding 600 none), []) ∧
      pastHold heldExit (tote 0 (.riding 600 none)) = true ∧
      ((heldBehind 0).params.terminal ≠ 1 ∧ (heldBehind 0).credit.exitHold = true ∧
        candidateSplit (heldBehind 0).zone = some ([], tote 0 (.riding 600 none), []) ∧
        pastHold (heldBehind 0) (tote 0 (.riding 600 none)) = false) ∧
      viewOf (heldBehind 0).credit = 0 ∧ 1 ≤ viewOf (heldBehind 1).credit := by decide

theorem witness_ExitsLeaveFromTheFront :
    ({ running with params := { Params.default with terminal := 1 } } : State).params.terminal = 1 ∧
      running.params.terminal ≠ 1 ∧ (tote 0 (.riding 600 (some 3))).claim = some 3 ∧
      (tote 0 (.armed 600 .i0 0 0 0)).claim = none ∧
      (tote 0 (.riding 600 none)) ∈ ({ running with zone := [tote 0 (.riding 600 none)] } : State).exitTests.zone.head? ∧
      (exitRepeatedly 1 { running with zone := [tote 0 (.riding 600 none)], pos := { running.pos with P := 6000 } }).zone = [] := by
  decide

/-! ### Premises: entry eye and routes -/

def readingTags (t : Option (BitVec 32)) (s : State) : State :=
  { s with
    params := { s.params with tagEnable := 1 }
    tagPort := { s.tagPort with pending := t.map fun x => ⟨x, 0⟩ } }

def expecting : State := { running with expected := [⟨ident 8, 0⟩, ⟨ident 9, 0⟩] }

theorem witness_LeadingEdgesMakeZoneRecords :
    edgeTaken .entry true running (edgeEvent .entry true running) (withEdge .entry true running) ∧
      honoured (edgeEvent .entry true running) running ∧ ¬ honoured (edgeEvent .entry true atRest) atRest ∧
      ¬ honoured ⟨true, 0, false, none⟩ running ∧
      (({ running with zone := [tote 0 (.entering .pass)] } : State).zone.getLast?.any fun t => t.track.code == 0) = true ∧
      (running.zone.getLast?.any fun t => t.track.code == 0) = false ∧
      24 ≤ ({ running with zone := List.replicate 24 (tote 0 (.riding 600 none)) } : State).zone.length ∧
      running.zone.length < 24 ∧ running.params.tagEnable ≠ 1 ∧ (readingTags none running).params.tagEnable = 1 ∧
      expecting.expected = ⟨ident 8, 0⟩ :: [⟨ident 9, 0⟩] ∧ running.expected = [] ∧
      (readingTags none running).tagPort.pending = none ∧
      ((readingTags (some 7) expecting).tagPort.pending = some ⟨7, 0⟩ ∧ ∀ n ∈ expecting.expected, n.ident.tag ≠ 7) ∧
      ((readingTags (some 9) expecting).tagPort.pending = some ⟨9, 0⟩ ∧
        expecting.expected = [⟨ident 8, 0⟩] ++ ⟨ident 9, 0⟩ :: [] ∧ ∀ m ∈ [(⟨ident 8, 0⟩ : Notice)], m.ident.tag ≠ 9) := by
  refine ⟨.inr ⟨rfl, by decide, rfl, rfl⟩, ⟨by decide, by decide⟩, fun h => h.2 (by decide), fun h => absurd h.1 (by decide),
    by decide, by decide, by decide, by decide, by decide,
    by decide, by decide, by decide, by decide, by decide, by decide⟩

/-- The entry eye blocked, one record still entering. -/
def entering (d : Decision) : State := withBlocked .entry { running with zone := [tote 0 (.entering d)] }

theorem witness_TrailingEdgesMeasureTheTote :
    edgeTaken .entry false (entering .pass) (edgeEvent .entry false (entering .pass)) (withEdge .entry false (entering .pass)) ∧
      honoured (edgeEvent .entry false (entering .pass)) (entering .pass) ∧
      (entering .pass).zone = [] ++ [tote 0 (.entering .pass)] ∧
      (entering (.land .i0)).zone = [] ++ [tote 0 (.entering (.land .i0))] ∧
      ¬ honoured (edgeEvent .entry false (withBlocked .entry atRest)) (withBlocked .entry atRest) ∧ ((withBlocked .entry running).zone.getLast?.any fun t => t.track.code == 0) = false := by
  exact ⟨.inr ⟨rfl, by decide, rfl, rfl⟩, ⟨by decide, by decide⟩, by decide, by decide, fun h => h.2 (by decide), by decide⟩

/-- Destination 3 by an entry; a group with an untaken member in bay 0. -/
def routed (e : RouteEntry) : State :=
  { running with
    params := openBay
    routes := { running.routes with active := [.pass, .pass, .pass, e] }
    groups := [⟨4, 2, 1, 0, ⟨1, 0, 0⟩, .rush, false⟩] }

def grouped : Ident := ⟨9, 5, 3, .rush, .small, some ⟨4, 2, 2⟩, 7⟩

theorem witness_RouteDecisionsFollowTheTable :
    ({ ident 9 with dest := 0 } : Ident).dest = 0 ∧ (ident 9).dest ≠ 0 ∧
      (routed .pass).routes.active.getD (ident 9).dest.toNat .pass = .pass ∧
      affine (routed (.land .i1 (some .i0))) (.land .i1 (some .i0)) grouped .i0 ∧
      (∀ k, ¬ affine (routed (.land .i0 (some .i1))) (.land .i0 (some .i1)) (ident 9) k) ∧
      admitted (routed (.land .i0 (some .i1))) .i0 .rush ∧ ¬ admitted (routed (.land .i1 (some .i0))) .i1 .rush ∧
      (routed (.best ⟨true, false, false⟩)).routes.active.getD 3 .pass = .best ⟨true, false, false⟩ ∧
      ∀ k, permitted (.best ⟨false, true, true⟩) k → ¬ admitted (routed (.best ⟨false, true, true⟩)) k .rush := by
  refine ⟨by decide, by decide, by decide, ⟨.inr rfl, ⟨by decide, by decide, by decide⟩, ⟨4, 2, 2⟩, _, rfl, rfl, by decide⟩, ?_,
    ⟨by decide, by decide, by decide⟩, fun h => absurd h.1 (by decide), by decide, ?_⟩
  · rintro k ⟨-, -, g, x, hg, -⟩
    exact absurd hg nofun
  · intro k _ ha
    cases k
    · contradiction
    · exact absurd ha.1 (by decide)
    · exact absurd ha.1 (by decide)

/-! ### Premises: diverts, lanes, assembly -/

/-- Late limit, target and window end before, at and behind P. -/
theorem witness_ArmedRecordsFireOrMiss :
    reached running.pos.P 0 = true ∧ reached running.pos.P 1 = false ∧ halted.node.state = .halt ∧ running.node.state = .run ∧
      ((running.modBay .i0 fun b => { b with blocked := true }).bays.get .i0).blocked = true ∧
      (running.bays.get .i0).blocked = false ∧ (tote 0 (.armed 600 .i0 0 1 0)).track = .armed 600 .i0 0 1 0 ∧
      (tote 0 (.confirming 600 .i0 0 0 0)).track = .confirming 600 .i0 0 0 0 ∧ (tote 0 (.riding 600 none)).track.code ≤ 1 := by
  decide

def confirming : State := { running with zone := [tote 5 (.riding 600 none), tote 0 (.confirming 600 .i0 0 0 9)] }

theorem witness_ConfirmEdgesLandTotes :
    edgeTaken (.confirm .i0) true confirming (edgeEvent (.confirm .i0) true confirming) (withEdge (.confirm .i0) true confirming) ∧
      confirming.zone = [tote 5 (.riding 600 none)] ++ tote 0 (.confirming 600 .i0 0 0 9) :: [] ∧
      confirmingAt .i0 (tote 0 (.confirming 600 .i0 0 0 9)) ∧ (∀ r ∈ [tote 5 (.riding 600 none)], ¬ confirmingAt .i0 r) ∧
      (confirming.bays.get .i0).landing.length < 8 ∧
      8 ≤ ((withLane (List.replicate 8 landed) confirming).bays.get .i0).landing.length ∧
      ∀ r ∈ running.zone, ¬ confirmingAt .i0 r := by
  refine ⟨.inr ⟨rfl, by decide, rfl, rfl⟩, rfl, ⟨rfl, rfl⟩, ?_, by decide, by decide +kernel,
    fun _ hr => absurd hr List.not_mem_nil⟩
  intro r hr h
  rw [List.mem_singleton.mp hr] at h
  exact absurd h.1 (by decide)

theorem witness_LaneEyesClearJamsAndTakeTotes :
    (∃ e u, edgeTaken (.confirm .i0) false (withBlocked (.confirm .i0) running) e u) ∧
      (∃ e u, edgeTaken (.front .i0) false (withBlocked (.front .i0) running) e u) ∧
      ((withBlocked (.front .i0) running).bays.get .i0).landing = [] ∧
      ((withLane [landed] (withBlocked (.front .i0) running)).bays.get .i0).landing = [landed] ∧
      ∃ e u, edgeTaken (.front .i0) true running e u := by
  refine ⟨⟨_, _, .inr ⟨rfl, by decide, rfl, rfl⟩⟩, ⟨_, _, .inr ⟨rfl, by decide, rfl, rfl⟩⟩, by decide, by decide,
    ⟨_, _, .inr ⟨rfl, by decide, rfl, rfl⟩⟩⟩

def oneLanded (n : Nat) : GroupEntry := ⟨4, 2, n, 0, ⟨n, 0, 0⟩, .rush, decide (n = 2)⟩

/-- The first, the last and one more than the last member; a full group table. -/
theorem witness_LandingsAreCountedAndCalled :
    ((withLane [landed] running).bays.get .i0).landing = [] ++ [landed] ∧ landed.group = none ∧
      member.group = some ⟨4, 2, 1⟩ ∧
      ([oneLanded 1].find? fun x => decide (x.id = 4)) = some (oneLanded 1) ∧ (oneLanded 1).landed ≠ (oneLanded 1).count ∧
      ([oneLanded 2].find? fun x => decide (x.id = 4)) = some (oneLanded 2) ∧ (oneLanded 2).landed = (oneLanded 2).count ∧
      (∀ x ∈ running.groups, x.id ≠ 4) ∧ running.groups.length < 8 ∧
      (8 ≤ (List.replicate 8 { oneLanded 1 with id := 5 }).length ∧ ∀ x ∈ List.replicate 8 { oneLanded 1 with id := 5 }, x.id ≠ 4) := by
  decide

theorem witness_TakenTotesAreCollected :
    landed.group = none ∧ member.group = some ⟨4, 2, 1⟩ ∧
      ([oneLanded 2].find? fun x => decide (x.id = 4)) = some (oneLanded 2) ∧ (oneLanded 2).taken + 1 ≠ (oneLanded 2).count ∧
      ({ oneLanded 2 with taken := 1 } : GroupEntry).taken + 1 = (oneLanded 2).count := by decide

/-! ### Premises: spurs and merges -/

/-- A granted spur whose virtual lead is given, its gate eye blocked. -/
def gated (lead : Pos) : State :=
  withBlocked (.gate .i0) (withSpur (.granted ⟨lead, .pass, false, false⟩) { running with pos := { running.pos with P := 3649, Hw := 3649 } })

/-- R111, R116: an edge stamped one count before the late point is not late, though P has passed the point when the Merge Unit
takes it. -/
theorem test_late_test_reads_the_stamp :
    after (exec (.gateEyeClear .i0) (withWaiting (.gate .i0) ⟨false, 3649, true, some 0⟩ (gated 0)))
      (fun t => decide (t.zone.map Tote.lead = [0]) && decide (t.reports = [])) = true := by decide

/-- The late point of a lead of 0 is 2,600 + 900 + 150 = 3,650: one count before it and at it. -/
theorem witness_GateEdgesMatchLoseAndMerge :
    (∃ e u, edgeTaken (.gate .i0) true (withSpur .empty running) e u) ∧
      ((withSpur .empty running).node.state ≠ .config ∧ ((withSpur .empty running).params.spur.get .i0).enable = 1) ∧
      (running.params.spur.get .i0).enable ≠ 1 ∧ ((withSpur .empty running).spurs.get .i0).st = .empty ∧
      ((withSpur .empty running).spurs.get .i0).list = [atGate] ∧ (running.spurs.get .i0).list = [] ∧
      (∃ e u, edgeTaken (.gate .i0) false (gated 0) e u) ∧ ((withSpur .waiting running).spurs.get .i0).st = .waiting ∧
      ((gated 0).spurs.get .i0).st = .granted ⟨0, .pass, false, false⟩ ∧ ((gated 0).spurs.get .i0).list = [atGate] ∧
      reached (edgeEvent (.gate .i0) false (gated 0)).stamp (0 + BitVec.ofNat 24 2600 + BitVec.ofNat 24 900 + BitVec.ofNat 24 150) = false ∧
      reached (edgeEvent (.gate .i0) false (gated 16777215)).stamp (16777215 + BitVec.ofNat 24 2600 + BitVec.ofNat 24 900 + BitVec.ofNat 24 150) = true ∧
      (gated 0).zone.length < 24 ∧ 24 ≤ (List.replicate 24 (tote 0 (.riding 600 none))).length := by
  refine ⟨⟨_, _, .inr ⟨rfl, by decide, rfl, rfl⟩⟩, by decide, by decide, by decide, by decide, by decide,
    ⟨_, _, .inr ⟨rfl, by decide, rfl, rfl⟩⟩, by decide, by decide, by decide, by decide, by decide, by decide, by decide⟩

/-- A spur waiting in a running zone at speed. -/
def eligibleSpur : State := withSpur .waiting { running with pos := { running.pos with S := 4 } }

theorem witness_MergeArbitrationGrantsOneSpur :
    eligibleSpur.eligible .i0 = true ∧ Ix.all.filter running.eligible = [] ∧
      Ix.all.filter eligibleSpur.eligible = [.i0] ∧ (Ix.all.any fun i => eligibleSpur.eligible i && frontClass (eligibleSpur.spurs.get i) .rush) = true := by
  decide

/-! ### Premises: line ports and payloads -/

def aFrame (dest kind : Byte) : Frame := ⟨dest, 0, kind, 0, []⟩

theorem witness_FramesAreDeliveredByAddress :
    60 < (List.replicate 61 (0 : Byte)).length ∧ (aFrame 61 0x03).dest.toNat % 64 = running.node.address ∧
      (aFrame 0x40 0x22).dest.toNat % 64 = 0 ∧ (aFrame 0x7E 0x01).dest.toNat % 64 = 62 ∧ (aFrame 0x3F 0x1E).dest.toNat % 64 = 63 ∧
      (aFrame 60 0x10).dest.toNat % 64 = 60 ∧ running.node.address ≠ 60 ∧ (otherKind 0x22) ∧ 0x80 ≤ (0x90 : Byte).toNat ∧
      (running.lines.get .U).fwd.length < 8 ∧
      8 ≤ ((running.modPort .U fun x => { x with fwd := List.replicate 8 (aFrame 0 0) }).lines.get .U).fwd.length := by
  unfold otherKind; decide

def queued (f : LinePort → LinePort) : State := running.modPort .U f

theorem witness_TransmittersTakeWhatWaits :
    running.reports.length < 16 ∧ 16 ≤ (List.replicate 16 (⟨.taken, 0, 0, 0⟩ : Report)).length ∧
      (running.lines.get .U).tx = none ∧ ((queued fun x => { x with tx := some ⟨aFrame 0 0, false⟩ }).lines.get .U).tx.isSome = true ∧
      (4 ≤ ((queued fun x => { x with passed := 4, fwd := [aFrame 0 0] }).lines.get .U).passed ∧
        ((queued fun x => { x with passed := 4, fwd := [aFrame 0 0] }).lines.get .U).fwd = aFrame 0 0 :: []) ∧
      0 < ({ running.credit with waiting := 1 } : CreditUnit).waiting ∧
      ({ running with lines := { running.lines with notices := [aFrame 0x3E 1] } } : State).lines.notices = aFrame 0x3E 1 :: [] ∧
      ((queued fun x => { x with responses := [⟨aFrame 0 0x90, false⟩] }).lines.get .U).responses = ⟨aFrame 0 0x90, false⟩ :: [] ∧
      (running.lines.get .U).responses = [] ∧ (running.lines.get .U).fwd = [] ∧ ¬ 0 < running.credit.waiting ∧
      0 < ({ running with dropped := 1 } : State).dropped ∧ (running.reports = [] ∧ running.dropped = 0) := by decide

theorem witness_FramesSentAreFramesReceived :
    receiverTable (running.lines.get .U).rx ⟨0, true, false, false⟩ = some (.inFrame [0], .quiet) ∧
      receiverTable (.inFrame [0]) ⟨0, false, false, true⟩ = some (.idle, .abandoned) ∧ (aFrame 0 0).payload.length ≤ 60 ∧
      [(0 : Byte), 0] ≠ (aFrame 0 0).check ∧ 60 < (61 : Byte).toNat ∧ (running.lines.get .U).rx = .idle ∧
      ((running.modPort .U fun x => { x with rx := .inFrame [0] }).lines.get .U).rx = .inFrame [0] ∧
      (charsOf [5, 6])[1]? = some ⟨6, false, false, false⟩ := by
  decide +kernel

theorem witness_CheckSeesAChangedByte : (0 : Byte) ≠ 1 := by decide

theorem witness_NoticePayloadsCarryTheTote :
    identSound grouped ∧ identSound (ident 9) ∧ (3 : Byte).getLsbD 2 = false ∧ (4 : Byte).getLsbD 2 = true := by
  unfold identSound groupSound grouped ident; decide

/-! ### Premises: the laws -/

/-- A node at work: one tote announced, one riding with its claim, one armed for bay 0, one spur waiting, and in the
lane of bay 0 a single-tote order called and one member of two of a group. -/
def working : State :=
  { running with
    params := { openBay with spur := openSpur.spur }
    expected := [⟨ident 8, 0⟩]
    zone := [tote 900 (.riding 600 (some 0)), tote 0 (.armed 600 .i0 3300 3800 3300)]
    spurs := running.spurs.set .i0 ⟨.waiting, [atGate], 0, none, none⟩
    bays := running.bays.set .i0 ⟨[landed, member], 1, false, none, none, 1, 1, 1, some 5, none⟩
    groups := [⟨4, 2, 1, 0, ⟨1, 0, 0⟩, .rush, false⟩]
    credit := { running.credit with mode := .locked, o := 2, r := 4, g := 6, s := 1, G := 3, unsynced := false } }

theorem working_steps : ∃ t, step working = .next t := ⟨_, rfl⟩

theorem witness_StepsKeepListsWithinCapacity : ListsFit working ∧ ∃ t, step working = .next t :=
  ⟨by unfold ListsFit bankFits; decide +kernel, working_steps⟩

theorem witness_StepsKeepQueuesWithinCapacity : QueuesFit working ∧ FramesFit working ∧ ∃ t, step working = .next t :=
  ⟨by unfold QueuesFit; decide, by unfold FramesFit frameFits; decide, working_steps⟩

theorem witness_StepsKeepInputsSound :
    ParamsSound working ∧ PositionSound working ∧ EyesSound working ∧ (∃ t, step working = .next t) ∧
      EyesSound { withWaiting (.gate .i0) ⟨true, 0, true, none⟩ working with pending := [.gateEyeBlocked .i0] } :=
  ⟨by unfold ParamsSound; decide, by unfold PositionSound; decide, by unfold EyesSound edgesSound; decide, working_steps,
    by unfold EyesSound edgesSound; decide⟩

theorem witness_StepsKeepNodeStatesSound : NodeSound working ∧ ConfigQuiet working ∧ ∃ t, step working = .next t :=
  ⟨by unfold NodeSound; decide, by unfold ConfigQuiet; decide, working_steps⟩

theorem witness_StepsKeepSpurStatesSound : SpursSound working ∧ ∃ t, step working = .next t := by
  refine ⟨?_, working_steps⟩
  intro i _
  cases i
  · exact ⟨⟨atGate, [], rfl, rfl, nofun⟩, by decide, by decide, by decide⟩
  · exact ⟨nofun, by decide, by decide, by decide⟩
  · exact ⟨nofun, by decide, by decide, by decide⟩

theorem witness_StepsKeepAnnouncedTagsUnique : TagsUnique working ∧ ∃ t, step working = .next t :=
  ⟨by unfold TagsUnique; decide, working_steps⟩

theorem witness_StepsKeepIdentitiesInRange : IdentsSound working ∧ ∃ t, step working = .next t :=
  ⟨by unfold IdentsSound identSound groupSound; decide, working_steps⟩

theorem witness_StepsKeepReservationsMatched : ReservedSound working ∧ ∃ t, step working = .next t :=
  ⟨by unfold ReservedSound; decide, working_steps⟩

theorem witness_StepsKeepCreditsSound : ParamsSound working ∧ CreditsSound working ∧ ∃ t, step working = .next t :=
  ⟨by unfold ParamsSound; decide, by unfold CreditsSound; decide, working_steps⟩

theorem witness_StepsKeepTerminalNodesUnheld : ConfigQuiet working ∧ TerminalQuiet working ∧ ∃ t, step working = .next t :=
  ⟨by unfold ConfigQuiet; decide, by unfold TerminalQuiet; decide, working_steps⟩

theorem witness_StepsKeepAssemblyCountsTrue : IdentsSound working ∧ AssemblySound working ∧ ∃ t, step working = .next t :=
  ⟨by unfold IdentsSound identSound groupSound; decide, by unfold AssemblySound entrySound; decide, working_steps⟩

theorem witness_StepsKeepLampsWithReadyCounts : LampsSound working ∧ ∃ t, step working = .next t :=
  ⟨by unfold LampsSound lampSound; decide, working_steps⟩

end Sys2Proof.Tests
end

section
/-! The sample period, eye by eye (R10 to R12, R54, R153). -/

namespace Sys2Proof.Belt

open Sys2Proof.Machine Sys2Proof.Claims

/-! ### The names of the statements are those of the model -/

theorem beam_eq_eye (x : Inputs) (i : EyeId) : beam x i = x.eye i := by cases i <;> rfl

theorem filterSetting_eq_filterOf (p : Params) (i : EyeId) : filterSetting p i = p.filterOf i := by cases i <;> rfl

theorem edgeOf_eq_edgeCommand (i : EyeId) (b : Bool) : edgeOf i b = edgeCommand i b := by cases i <;> cases b <;> rfl

theorem edgeEvent_eq_edgeNow (i : EyeId) (b : Bool) (s : State) : edgeEvent i b s = s.edgeNow i b := rfl

theorem jamOf_eq (b : Bool) (s : State) : jamOf b s = if b then some (posAdd s.pos.P s.params.jamLen) else none := rfl

/-- An acceptance in the words of the statements. -/
theorem acceptEdge_eq_changedEye (i : EyeId) (b : Bool) (s : State) :
    s.acceptEdge i b = { s with
      eyes := s.eyes.put i (changedEye b ((s.eyes.get i).waiting ++ [edgeEvent i b s]) s)
      jamAt := if i = .entry then jamOf b s else s.jamAt } :=
  s.acceptEdge_eq i b

/-! ### One eye -/

/-- The sample of eye i accepts a change (R10). -/
def accepts (s : State) (i : EyeId) : Bool :=
  decide (beam s.inputs i ≠ (s.eyes.get i).blocked ∧ filterSetting s.params i ≤ (s.eyes.get i).count + 1)

theorem accepts_iff {s : State} {i : EyeId} : accepts s i = true ↔
    beam s.inputs i ≠ (s.eyes.get i).blocked ∧ filterSetting s.params i ≤ (s.eyes.get i).count + 1 :=
  decide_eq_true_iff

/-- What a sample makes of eye i (R10 to R12). -/
def sampledEye (s : State) (i : EyeId) : Eye :=
  if beam s.inputs i = (s.eyes.get i).blocked then { s.eyes.get i with count := 0 }
  else if filterSetting s.params i ≤ (s.eyes.get i).count + 1 then
    changedEye (beam s.inputs i) ((s.eyes.get i).waiting ++ [edgeEvent i (beam s.inputs i) s]) s
  else { s.eyes.get i with count := (s.eyes.get i).count + 1 }

theorem sampledEye_of_accepts {s : State} {i : EyeId} (h : accepts s i = true) :
    sampledEye s i = changedEye (beam s.inputs i) ((s.eyes.get i).waiting ++ [edgeEvent i (beam s.inputs i) s]) s := by
  obtain ⟨hb, hn⟩ := accepts_iff.mp h
  rw [sampledEye, if_neg hb, if_pos hn]

theorem sampleEye_of_accepts {s : State} {i : EyeId} (h : accepts s i = true) :
    s.sampleEye i = { s with
      eyes := s.eyes.put i (sampledEye s i)
      jamAt := if i = .entry then jamOf (beam s.inputs i) s else s.jamAt
      pending := s.pending ++ [edgeOf i (beam s.inputs i)] } := by
  have hx : (filterSample (decide (s.inputs.eye i ≠ (s.eyes.get i).blocked)) (s.eyes.get i).count
      (s.params.filterOf i)).2 = true := by
    obtain ⟨hb, hn⟩ := accepts_iff.mp h
    rw [beam_eq_eye] at hb
    rw [filterSetting_eq_filterOf] at hn
    simp [filterSample, hb, hn]
  rw [sampledEye_of_accepts h, beam_eq_eye, edgeOf_eq_edgeCommand]
  unfold State.sampleEye
  simp only [hx, if_true]
  rw [acceptEdge_eq_changedEye]

theorem sampleEye_of_not_accepts {s : State} {i : EyeId} (h : accepts s i = false) :
    s.sampleEye i = { s with eyes := s.eyes.put i (sampledEye s i) } := by
  unfold State.sampleEye sampledEye
  have hna : ¬ accepts s i = true := by simp [h]
  rw [accepts_iff, beam_eq_eye, filterSetting_eq_filterOf] at hna
  rw [beam_eq_eye, filterSetting_eq_filterOf]
  by_cases hb : s.inputs.eye i = (s.eyes.get i).blocked
  · simp [filterSample, hb]
  · have hn : ¬ s.params.filterOf i ≤ (s.eyes.get i).count + 1 := fun hn => hna ⟨hb, hn⟩
    simp [filterSample, hb, hn]

theorem sampleEye_eyes_get (s : State) (i j : EyeId) :
    (s.sampleEye i).eyes.get j = if j = i then sampledEye s i else s.eyes.get j := by
  cases h : accepts s i with
  | true => rw [sampleEye_of_accepts h]; exact EyeUnit.get_put ..
  | false => rw [sampleEye_of_not_accepts h]; exact EyeUnit.get_put ..

/-- The sample of one eye leaves what the sample of another reads. -/
theorem accepts_sampleEye {s : State} {i j : EyeId} (h : j ≠ i) : accepts (s.sampleEye i) j = accepts s j := by
  have hi : (s.sampleEye i).inputs = s.inputs := by rw [State.sampleEye_frame]
  have hp : (s.sampleEye i).params = s.params := by rw [State.sampleEye_frame]
  rw [accepts, accepts, hi, hp, sampleEye_eyes_get, if_neg h]

theorem sampledEye_sampleEye {s : State} {i j : EyeId} (h : j ≠ i) :
    sampledEye (s.sampleEye i) j = sampledEye s j := by
  have hi : (s.sampleEye i).inputs = s.inputs := by rw [State.sampleEye_frame]
  have hp : (s.sampleEye i).params = s.params := by rw [State.sampleEye_frame]
  have hq : (s.sampleEye i).pos = s.pos := by rw [State.sampleEye_frame]
  have ht : (s.sampleEye i).time = s.time := by rw [State.sampleEye_frame]
  simp only [sampledEye, changedEye, edgeEvent, hi, hp, hq, ht, sampleEye_eyes_get, if_neg h]

theorem jamOf_sampleEye (s : State) (i : EyeId) (b : Bool) : jamOf b (s.sampleEye i) = jamOf b s := by
  rw [State.sampleEye_frame]; rfl

/-! ### The ten eyes -/

/-- The commands one sample puts in the queue for the eyes of a list. -/
def edgeCommands (s : State) (l : List EyeId) : List Instr :=
  l.flatMap fun i => if accepts s i then [edgeOf i (beam s.inputs i)] else []

theorem edgeCommands_sampleEye {s : State} {i : EyeId} {l : List EyeId} (h : i ∉ l) :
    edgeCommands (s.sampleEye i) l = edgeCommands s l := by
  have hi : (s.sampleEye i).inputs = s.inputs := by rw [State.sampleEye_frame]
  refine List.flatMap_congr fun j hj => ?_
  rw [hi, accepts_sampleEye (ne_of_mem_of_not_mem hj h)]

theorem sampleEye_pending (s : State) (i : EyeId) :
    (s.sampleEye i).pending = s.pending ++ edgeCommands s [i] := by
  cases h : accepts s i with
  | true => simp [sampleEye_of_accepts h, edgeCommands, h]
  | false => simp [sampleEye_of_not_accepts h, edgeCommands, h]

theorem sampleEye_jamAt (s : State) (i : EyeId) :
    (s.sampleEye i).jamAt = if i = .entry ∧ accepts s i then jamOf (beam s.inputs i) s else s.jamAt := by
  cases h : accepts s i with
  | true => simp [sampleEye_of_accepts h]
  | false => simp [sampleEye_of_not_accepts h]

/-- The sample of a run of different eyes, each sampled as it stood before. -/
theorem foldl_sampleEye {l : List EyeId} (hl : l.Nodup) (s : State) :
    (∀ j, (l.foldl (fun s i => s.sampleEye i) s).eyes.get j = if j ∈ l then sampledEye s j else s.eyes.get j) ∧
    (l.foldl (fun s i => s.sampleEye i) s).pending = s.pending ++ edgeCommands s l ∧
    (l.foldl (fun s i => s.sampleEye i) s).jamAt =
      if .entry ∈ l ∧ accepts s .entry then jamOf (beam s.inputs .entry) s else s.jamAt := by
  induction l generalizing s with
  | nil => simp [edgeCommands]
  | cons i l ih =>
    obtain ⟨hi, hl⟩ := List.nodup_cons.mp hl
    obtain ⟨heyes, hpending, hjam⟩ := ih hl (s.sampleEye i)
    refine ⟨fun j => ?_, ?_, ?_⟩
    · rw [List.foldl_cons, heyes, sampleEye_eyes_get]
      by_cases hj : j = i
      · subst hj; simp [hi]
      · simp [hj, sampledEye_sampleEye hj]
    · rw [List.foldl_cons, hpending, sampleEye_pending, edgeCommands_sampleEye hi, List.append_assoc]
      simp [edgeCommands]
    · have hb : (s.sampleEye i).inputs = s.inputs := by rw [State.sampleEye_frame]
      rw [List.foldl_cons, hjam, hb, jamOf_sampleEye, sampleEye_jamAt]
      by_cases he : EyeId.entry = i
      · subst he; simp [hi]
      · simp [he, Ne.symm he, accepts_sampleEye he]

theorem mem_eyeOrder (i : EyeId) : i ∈ eyeOrder := by
  cases i <;> simp [eyeOrder, Ix.mem_all]

theorem nodup_eyeOrder : eyeOrder.Nodup := by decide

theorem sampleEyes_eyes_get (s : State) (i : EyeId) : s.sampleEyes.eyes.get i = sampledEye s i :=
  ((foldl_sampleEye nodup_eyeOrder s).1 i).trans (if_pos (mem_eyeOrder i))

theorem sampleEyes_pending (s : State) : s.sampleEyes.pending = s.pending ++ edgeCommands s eyeOrder :=
  (foldl_sampleEye nodup_eyeOrder s).2.1

theorem sampleEyes_jamAt (s : State) :
    s.sampleEyes.jamAt = if accepts s .entry then jamOf s.inputs.entry s else s.jamAt := by
  refine (foldl_sampleEye nodup_eyeOrder s).2.2.trans ?_
  simp [mem_eyeOrder, beam]

/-! ### The period -/

/-- What a sample period puts before the eyes are sampled: the phase, the e-stop count and the commands found. -/
def beforeEyes (s : State) : State :=
  { s with
    time := { s.time with quarter := if s.time.quarter + 1 < Config.samplesPerTick then s.time.quarter + 1 else 0 }
    node := { s.node with estopCount := s.sampleEstop.1 }
    pending := s.pending ++ (s.tickCommands ++ s.sampleEstop.2) }

theorem samplePeriod_eq (s : State) : s.samplePeriod = (beforeEyes s).sampleEyes := rfl

theorem samplePeriod_eyes_get (s : State) (i : EyeId) : s.samplePeriod.eyes.get i = sampledEye s i :=
  sampleEyes_eyes_get ..

theorem samplePeriod_jamAt (s : State) :
    s.samplePeriod.jamAt = if accepts s .entry then jamOf s.inputs.entry s else s.jamAt :=
  sampleEyes_jamAt ..

theorem samplePeriod_pending (s : State) :
    s.samplePeriod.pending = s.pending ++ (s.tickCommands ++ s.sampleEstop.2) ++ edgeCommands s eyeOrder :=
  sampleEyes_pending ..

theorem samplePeriod_frame (s : State) :
    s.samplePeriod = { beforeEyes s with
      eyes := s.samplePeriod.eyes, jamAt := s.samplePeriod.jamAt, pending := s.samplePeriod.pending } :=
  (beforeEyes s).sampleEyes_frame

theorem sampleEstop_fst (s : State) : s.sampleEstop.1 =
    if s.inputs.estop = s.node.estopActive ∨ 4 ≤ s.node.estopCount + 1 then 0 else s.node.estopCount + 1 := by
  by_cases he : s.inputs.estop = s.node.estopActive <;> by_cases hn : 4 ≤ s.node.estopCount + 1 <;>
    simp [State.sampleEstop, filterSample, Config.estopFilter, he, hn]

theorem sampleEstop_snd (s : State) : s.sampleEstop.2 =
    if s.inputs.estop ≠ s.node.estopActive ∧ 4 ≤ s.node.estopCount + 1 then
      [if s.inputs.estop = true then .eStopAssertion else .eStopRelease] else [] := by
  by_cases he : s.inputs.estop = s.node.estopActive <;> by_cases hn : 4 ≤ s.node.estopCount + 1 <;>
    simp [State.sampleEstop, filterSample, Config.estopFilter, he, hn]

theorem dueNext_iff (t : Timer) : Timer.dueNext t = true ↔ t = some 0 ∨ t = some 1 := by
  cases t with
  | none => simp [Timer.dueNext]
  | some n => simp [Timer.dueNext]; omega

/-- Settles O2: the eyes are sampled one by one, and no sample of an eye is seen by that of another. -/
theorem idleStepSamplesThePins : Obligations.IdleStepSamplesThePins := by
  unfold Obligations.IdleStepSamplesThePins
  intro s hs
  refine ⟨s.samplePeriod, step_of_idle hs, ?_, samplePeriod_eyes_get s, ?_, ?_, ?_⟩
  · conv_lhs => rw [samplePeriod_frame]
    have hq : (if s.time.quarter + 1 < Config.samplesPerTick then s.time.quarter + 1 else 0) =
        if 4 ≤ s.time.quarter + 1 then 0 else s.time.quarter + 1 :=
      (ite_not ..).symm.trans (if_congr Nat.not_lt rfl rfl)
    have hn : s.samplePeriod.node.estopCount = s.sampleEstop.1 := by rw [samplePeriod_frame]; rfl
    rw [beforeEyes, hq, hn]
  · rw [samplePeriod_jamAt]
    exact if_congr accepts_iff rfl rfl
  · rw [samplePeriod_frame]
    exact sampleEstop_fst s
  · intro due expiries
    have hdue : ∀ (t : Timer) (c : Instr), due t c = if Timer.dueNext t then [c] else [] := fun t c =>
      if_congr (dueNext_iff t).symm rfl rfl
    have hexp : s.expiries = expiries := by simp only [State.expiries, expiries, hdue]
    have htick : s.tickCommands = if 4 ≤ s.time.quarter + 1 then .millisecondTick :: expiries else [] := by
      rw [State.tickCommands, hexp]
      exact (ite_not ..).symm.trans (if_congr Nat.not_lt rfl rfl)
    have heyes : ∀ i, (if accepts s i then [edgeOf i (beam s.inputs i)] else []) =
        if beam s.inputs i ≠ (s.eyes.get i).blocked ∧ filterSetting s.params i ≤ (s.eyes.get i).count + 1 then
          [edgeOf i (beam s.inputs i)] else [] := fun i => if_congr accepts_iff rfl rfl
    rw [samplePeriod_pending, hs, List.nil_append, htick, sampleEstop_snd, edgeCommands]
    simp only [heyes]
    rfl

end Sys2Proof.Belt
end

section
/-! The parameter set and its writes (R2, R15, R16, R176, R177). -/

namespace Sys2Proof.Belt

open Sys2Proof.Machine Sys2Proof.Claims

/-! ### The table of R176 -/

theorem get_put_self (a : Params) (x : ParamId) (v : Nat) : (a.put x v).get x = v := by
  cases x <;> simp [Params.put, Params.get]

theorem get_put_of_ne (a : Params) {x y : ParamId} (v : Nat) (h : y ≠ x) : (a.put x v).get y = a.get y := by
  cases x <;> cases y <;> simp_all [Params.put, Params.get, Tri.get_modify] <;> split <;> simp_all

/-- A parameter read after a write. -/
theorem get_put (a : Params) (x y : ParamId) (v : Nat) : (a.put x v).get y = if y = x then v else a.get y := by
  split
  · next h => rw [h, get_put_self]
  · next h => exact get_put_of_ne a v h

/-- The range or set of a parameter as intervals (R176). -/
def rangeOf : ParamId → List (Nat × Nat)
  | .encDiv => [(1, 1), (2, 2), (4, 4), (8, 8)]
  | .speedWin => [(8, 8), (16, 16), (32, 32), (64, 64)]
  | .entryFilter | .gateFilter | .bayFilter => [(1, 15)]
  | .lenSmall | .lenLarge => [(100, 4000)]
  | .lenTol | .gap => [(0, 1000)]
  | .jamLen => [(200, 16000)]
  | .zoneExit => [(500, 65535)]
  | .holdPoint => [(1, 65534)]
  | .dueDist => [(100, 65535)]
  | .stallMs => [(100, 5000)]
  | .tagEnable | .terminal | .reportLandings | .spurEnable _ => [(0, 1)]
  | .tagHold => [(50, 4000)]
  | .mergeMinSpeed => [(1, 1000)]
  | .zoneBudget => [(4, 24)]
  | .upLimit => [(1, 16)]
  | .patience => [(1, 15)]
  | .chuteJamMs => [(500, 10000)]
  | .lampStepS => [(1, 255)]
  | .chimeMs => [(50, 2000)]
  | .bayCap _ => [(0, 8)]
  | .bayRush _ => [(0, 7)]
  | .bayOffset _ => [(100, 65535)]
  | .bayLatency _ => [(0, 255)]
  | .bayPulse _ => [(20, 500)]
  | .bayConfirm _ => [(50, 2000)]
  | .spurMerge _ => [(100, 65535)]
  | .spurAdj _ => [(0, 4000)]
  | .spurGateMs _ => [(50, 1000)]
  | .spurReleaseMs _ => [(100, 5000)]

theorem valueOk_iff (p : ParamId) (v : Nat) : p.valueOk v = true ↔ ∃ x ∈ rangeOf p, x.1 ≤ v ∧ v ≤ x.2 := by
  cases p <;> simp [ParamId.valueOk, rangeOf] <;> omega

theorem rows_of_parameterTable : ∀ r ∈ parameterTable,
    ParamId.ofByte r.id = some r.param ∧ r.param.configClass = r.config ∧ r.range = rangeOf r.param := by
  decide

theorem ofByte_eq_none_iff : ∀ b : Byte, ParamId.ofByte b = none ↔ ∀ r ∈ parameterTable, r.id ≠ b := by
  decide +kernel

theorem ofByte_eq_encDiv : ∀ b : Byte, ParamId.ofByte b = some .encDiv ↔ b = 0x01 := by decide +kernel

theorem ofByte_eq_tagEnable : ∀ b : Byte, ParamId.ofByte b = some .tagEnable ↔ b = 0x0F := by decide +kernel

theorem ofByte_eq_tagHold : ∀ b : Byte, ParamId.ofByte b = some .tagHold ↔ b = 0x10 := by decide +kernel

theorem inRange_iff (q : Params) : q.inRange = true ↔ ∀ p : ParamId, p.valueOk (q.get p) = true := by
  rw [Params.inRange, List.all_eq_true]
  refine ⟨fun h p => h p ?_, fun h p _ => h p⟩
  cases p <;> simp [zoneParamIds, bayParamIds, spurParamIds, Ix.mem_all]

theorem inRange_put {q : Params} {p : ParamId} {v : Nat} (hq : q.inRange = true) (hv : p.valueOk v = true) :
    (q.put p v).inRange = true := by
  rw [inRange_iff] at hq ⊢
  intro y
  rw [get_put]
  split
  · next h => rw [h]; exact hv
  · exact hq y

theorem triplesOf_cons (a b c : Byte) (p : List Byte) :
    triplesOf (a :: b :: c :: p) = (a, 256 * b.toNat + c.toNat) :: triplesOf p := by
  simp [triplesOf, beNat, Nat.mul_comm]

theorem triplesOf_of_length_lt {p : List Byte} (h : p.length < 3) : triplesOf p = [] := by
  match p, h with
  | [], _ => rfl
  | [_], _ => rfl
  | [_, _], _ => rfl

/-! ### One pair (R177) -/

theorem pairRefusal_eq_none_iff {s : State} {x : Byte × Nat} : s.pairRefusal x = none ↔ pairPasses x s := by
  unfold State.pairRefusal pairPasses
  cases ParamId.ofByte x.1 with
  | none => simp
  | some p => cases hv : p.valueOk x.2 <;> cases hc : p.configClass <;> simp [hv, hc]

theorem pairRefusal_unknown {s : State} {x : Byte × Nat} (h : ParamId.ofByte x.1 = none) :
    s.pairRefusal x = some [0x04, x.1, 0xFF] := by
  simp [State.pairRefusal, h, badParameter, refusal, byte]

theorem pairRefusal_out_of_range {s : State} {x : Byte × Nat} {p : ParamId} (h : ParamId.ofByte x.1 = some p)
    (hv : p.valueOk x.2 = false) : s.pairRefusal x = some [0x04, x.1, 0xFF] := by
  simp [State.pairRefusal, h, hv, badParameter, refusal, byte]

theorem byte_code (n : NodeState) : byte n.code = nodeCode n := by cases n <;> rfl

theorem pairRefusal_of_class {s : State} {x : Byte × Nat} {p : ParamId} (h : ParamId.ofByte x.1 = some p)
    (hv : p.valueOk x.2 = true) (hx : ¬ pairPasses x s) :
    s.pairRefusal x = some [0x03, nodeCode s.node.state, x.1] := by
  have hc : p.configClass = true ∧ s.node.state ≠ .config := by
    simpa [pairPasses, h, hv] using hx
  simp [State.pairRefusal, h, hv, hc, refusal, byte, ← byte_code]

/-- What a write of a pair can change. -/
theorem writePair_frame (s : State) (x : Byte × Nat) : s.writePair x = { s with
    params := (s.writePair x).params
    pos := { s.pos with sub := (s.writePair x).pos.sub }
    tagPort := { s.tagPort with pending := (s.writePair x).tagPort.pending }
    counters := (s.writePair x).counters } := by
  unfold State.writePair State.writeParam
  split
  · simp only []
    split
    · rfl
    · split <;> rfl
    · rw [State.expireTag_frame]
    · rfl
  · rfl

theorem writePair_params (s : State) (x : Byte × Nat) : (s.writePair x).params =
    match ParamId.ofByte x.1 with | some id => s.params.put id x.2 | none => s.params := by
  unfold State.writePair State.writeParam
  cases ParamId.ofByte x.1 with
  | none => rfl
  | some p =>
    simp only []
    split
    · rfl
    · split <;> rfl
    · rw [State.expireTag_frame]
    · rfl

theorem writePair_sub (s : State) (x : Byte × Nat) :
    (s.writePair x).pos.sub = if x.1 = 0x01 then 0 else s.pos.sub := by
  rw [if_congr (ofByte_eq_encDiv x.1).symm rfl rfl]
  unfold State.writePair State.writeParam
  cases ParamId.ofByte x.1 with
  | none => rfl
  | some p =>
    simp only []
    split
    · rfl
    · split <;> rfl
    · rw [State.expireTag_frame]; rfl
    · next h _ _ => rw [if_neg (by simpa using h)]

end Sys2Proof.Belt
end

section
/-! SET PARAMETERS as a request (R173, R177). -/

namespace Sys2Proof.Belt

open Sys2Proof.Machine Sys2Proof.Claims

theorem pairOnTag_of_ne {P : Pos} {a : Option PendingTag × List Counter} {x : Byte × Nat} (hE : x.1 ≠ 0x0F)
    (hH : x.1 ≠ 0x10) : pairOnTag P a x = a := by
  rw [pairOnTag, if_neg fun h => hE (congrArg Prod.fst h), if_neg fun h => hH h.1]

theorem pairOnTag_tagEnable (P : Pos) (a : Option PendingTag × List Counter) (v : Nat) :
    pairOnTag P a (0x0F, v) = if v = 0 then (none, a.2) else a := by
  by_cases hv : v = 0 <;> simp [pairOnTag, hv]

theorem pairOnTag_tagHold (P : Pos) (a : Option PendingTag × List Counter) (v : Nat) :
    pairOnTag P a (0x10, v) = if (a.1.any fun y => reached P (posAdd y.since v)) = true then
      (none, a.2.map (Counter.offered .tagUnused none none)) else a := by
  rw [pairOnTag, if_neg (by simp)]
  exact if_congr (by simp [posAdd]) rfl rfl

theorem tagExpired_eq (s : State) :
    s.tagExpired = s.tagPort.pending.any fun y => reached s.pos.P (posAdd y.since s.params.tagHold) := by
  unfold State.tagExpired
  cases s.tagPort.pending <;> rfl

theorem expireTag_tag (s : State) : (s.expireTag.tagPort.pending, s.expireTag.counters) =
    if (s.tagPort.pending.any fun y => reached s.pos.P (posAdd y.since s.params.tagHold)) = true then
      (none, s.counters.map (Counter.offered .tagUnused none none)) else (s.tagPort.pending, s.counters) := by
  rw [State.expireTag, tagExpired_eq]
  split <;> rfl

/-- The pending tag and the counters after a pair that is written. -/
theorem writePair_tag (s : State) (x : Byte × Nat) :
    ((s.writePair x).tagPort.pending, (s.writePair x).counters) =
      pairOnTag s.pos.P (s.tagPort.pending, s.counters) x := by
  obtain ⟨b, v⟩ := x
  have hE := ofByte_eq_tagEnable b
  have hH := ofByte_eq_tagHold b
  unfold State.writePair State.writeParam
  cases hp : ParamId.ofByte b with
  | none =>
    rw [hp] at hE hH
    exact (pairOnTag_of_ne (fun h => nomatch hE.mpr h) (fun h => nomatch hH.mpr h)).symm
  | some p =>
    rw [hp, Option.some_inj] at hE hH
    simp only []
    split
    · exact (pairOnTag_of_ne (fun h => nomatch hE.mpr h) (fun h => nomatch hH.mpr h)).symm
    · rw [hE.mp rfl, pairOnTag_tagEnable]; split <;> rfl
    · rw [hH.mp rfl, pairOnTag_tagHold, expireTag_tag]; rfl
    · next hne hnh => exact (pairOnTag_of_ne (fun h => hne (hE.mpr h)) (fun h => hnh (hH.mpr h))).symm

/-! ### All pairs -/

theorem writePairs_frame (l : List (Byte × Nat)) (s : State) : l.foldl State.writePair s = { s with
    params := (l.foldl State.writePair s).params
    pos := { s.pos with sub := (l.foldl State.writePair s).pos.sub }
    tagPort := { s.tagPort with pending := (l.foldl State.writePair s).tagPort.pending }
    counters := (l.foldl State.writePair s).counters } := by
  induction l generalizing s with
  | nil => rfl
  | cons x l ih => rw [List.foldl_cons, ih, writePair_frame]

theorem writePairs_params (l : List (Byte × Nat)) (s : State) : (l.foldl State.writePair s).params =
    l.foldl (fun a x => match ParamId.ofByte x.1 with | some id => a.put id x.2 | none => a) s.params := by
  induction l generalizing s with
  | nil => rfl
  | cons x l ih => rw [List.foldl_cons, ih, writePair_params]; rfl

theorem writePairs_sub (l : List (Byte × Nat)) (s : State) :
    (l.foldl State.writePair s).pos.sub = if 0x01 ∈ l.map Prod.fst then 0 else s.pos.sub := by
  induction l generalizing s with
  | nil => rfl
  | cons x l ih =>
    rw [List.foldl_cons, ih, writePair_sub, List.map_cons, ← ite_or]
    exact if_congr (by rw [List.mem_cons, or_comm, eq_comm]) rfl rfl

theorem writePairs_tag (l : List (Byte × Nat)) (s : State) :
    ((l.foldl State.writePair s).tagPort.pending, (l.foldl State.writePair s).counters) =
      l.foldl (pairOnTag s.pos.P) (s.tagPort.pending, s.counters) := by
  induction l generalizing s with
  | nil => rfl
  | cons x l ih =>
    have hP : (s.writePair x).pos.P = s.pos.P := by rw [writePair_frame]
    rw [List.foldl_cons, List.foldl_cons, ih, hP, writePair_tag]

/-- No write brings a tag. -/
theorem foldl_pairOnTag_none (P : Pos) (l : List (Byte × Nat)) (cs : List Counter) :
    (l.foldl (pairOnTag P) (none, cs)).1 = none := by
  induction l with
  | nil => rfl
  | cons x l ih =>
    have hx : pairOnTag P (none, cs) x = (none, cs) := by simp [pairOnTag]
    rw [List.foldl_cons, hx, ih]

theorem foldl_pairOnTag_discards (P : Pos) {l : List (Byte × Nat)} (h : (0x0F, 0) ∈ l)
    (a : Option PendingTag × List Counter) : (l.foldl (pairOnTag P) a).1 = none := by
  induction l generalizing a with
  | nil => cases h
  | cons x l ih =>
    rcases List.mem_cons.mp h with rfl | hl
    · rw [List.foldl_cons, pairOnTag, if_pos rfl, foldl_pairOnTag_none]
    · exact ih hl _

theorem foldl_pairOnTag_counters (P : Pos) {l : List (Byte × Nat)} (h : 0x10 ∉ l.map Prod.fst)
    (a : Option PendingTag × List Counter) : (l.foldl (pairOnTag P) a).2 = a.2 := by
  induction l generalizing a with
  | nil => rfl
  | cons x l ih =>
    rw [List.map_cons, List.mem_cons, not_or] at h
    obtain ⟨hx, hl⟩ := h
    rw [List.foldl_cons, ih hl, pairOnTag]
    split
    · rfl
    · rw [if_neg fun h => hx h.1.symm]

/-! ### The request -/

theorem frameArrives_responses (p q : Port) (s : State) :
    ((s.frameArrives p).lines.get q).responses = (s.lines.get q).responses := by
  unfold State.frameArrives
  split
  · rfl
  · simp only [State.offerCheckError, State.offer_lines, State.modPort_lines_get]
    split <;> rfl

/-- A delivered request is carried out and answered (R168, R173). -/
theorem requestArrives_of_delivered {q : Request} {s : State} (h : delivered q s) (op : Handler) (kind : Byte) :
    s.requestArrives op kind q =
      (op q.payload (s.frameArrives q.port)).1.respond kind q (op q.payload (s.frameArrives q.port)).2 := by
  obtain ⟨hb, hlen, hplace⟩ := h
  have hr : ¬ Config.responseCap ≤ (((s.frameArrives q.port).lines.get q.port).responses).length := by
    rw [frameArrives_responses]; exact Nat.not_le.mpr hplace
  unfold State.requestArrives State.serve
  simp only [hb, if_neg (Nat.not_lt.mpr hlen : ¬ Config.lenMax < _), if_neg hr, Bool.false_eq_true, if_false]

theorem reqSetParameters_of_pass {p : List Byte} {s : State} (hlen : p.length % 3 = 0 ∧ 3 ≤ p.length ∧ p.length ≤ 60)
    (h : pairsPass p s) : reqSetParameters p s = ((triplesOf p).foldl State.writePair s, [0x00]) := by
  have hn : (triplesOf p).findSome? s.pairRefusal = none :=
    List.findSome?_eq_none_iff.mpr fun x hx => pairRefusal_eq_none_iff.mpr (h x hx)
  rw [reqSetParameters, if_pos hlen, hn]; rfl

theorem reqSetParameters_of_refused {p : List Byte} {s : State}
    (hlen : p.length % 3 = 0 ∧ 3 ≤ p.length ∧ p.length ≤ 60) (h : ¬ pairsPass p s) :
    ∃ before x after r, triplesOf p = before ++ x :: after ∧ (∀ y ∈ before, pairPasses y s) ∧ ¬ pairPasses x s ∧
      s.pairRefusal x = some r ∧ reqSetParameters p s = (s, r) := by
  obtain ⟨r, hr⟩ : ∃ r, (triplesOf p).findSome? s.pairRefusal = some r := by
    rw [← Option.isSome_iff_exists, ← Option.ne_none_iff_isSome, Ne, List.findSome?_eq_none_iff]
    exact fun hn => h fun x hx => pairRefusal_eq_none_iff.mp (hn x hx)
  obtain ⟨before, x, after, hsplit, hx, hbefore⟩ := List.findSome?_eq_some_iff.mp hr
  refine ⟨before, x, after, r, hsplit, fun y hy => pairRefusal_eq_none_iff.mp (hbefore y hy), ?_, hx, ?_⟩
  · rw [← pairRefusal_eq_none_iff, hx]; exact nofun
  · rw [reqSetParameters, if_pos hlen, hr]

/-- Settles O18: the pairs pass together or the first refused one is named, and each write touches what its pair says. -/
theorem setParametersIsAllOrNothing : Obligations.SetParametersIsAllOrNothing := by
  unfold Obligations.SetParametersIsAllOrNothing
  refine ⟨fun q s hq h3 hne => ?_, get_put, fun _ => rfl, ?_, ofByte_eq_none_iff, triplesOf_cons,
    fun _ => triplesOf_of_length_lt⟩
  · have hlen : q.payload.length % 3 = 0 ∧ 3 ≤ q.payload.length ∧ q.payload.length ≤ 60 := by
      have := List.length_pos_iff.mpr hne
      obtain ⟨_, h60, _⟩ := hq
      omega
    have hexec : exec (.setParameters q) s = .next (s.requestArrives reqSetParameters 0x11 q).finish := rfl
    rw [requestArrives_of_delivered hq] at hexec
    refine ⟨fun hpass => ?_, fun hpass => ?_⟩
    · rw [reqSetParameters_of_pass hlen hpass] at hexec
      have htag := writePairs_tag (triplesOf q.payload) (s.frameArrives q.port)
      refine ⟨_, hexec, writePairs_frame .., writePairs_params .., writePairs_sub .., fun h => ?_, fun h => ?_, htag⟩
      · exact (congrArg Prod.fst htag).trans (foldl_pairOnTag_discards _ h _)
      · exact (congrArg Prod.snd htag).trans (foldl_pairOnTag_counters _ h _)
    · obtain ⟨before, x, after, r, hsplit, hbefore, hx, hr, hreq⟩ := reqSetParameters_of_refused hlen hpass
      rw [hreq] at hexec
      refine ⟨before, x, after, hsplit, hbefore, hx, r, hexec, fun hid => ?_, fun id hid => ⟨fun hv => ?_, fun hv => ?_⟩⟩
      · exact Option.some_inj.mp (hr.symm.trans (pairRefusal_unknown hid))
      · exact Option.some_inj.mp (hr.symm.trans (pairRefusal_out_of_range hid hv))
      · exact Option.some_inj.mp (hr.symm.trans (pairRefusal_of_class hid hv hx))
  · intro r hr
    obtain ⟨hid, hclass, hrange⟩ := rows_of_parameterTable r hr
    exact ⟨hid, hclass, fun v => hrange ▸ valueOk_iff r.param v⟩

end Sys2Proof.Belt
end

section
/-! The START constraints (R22). -/

namespace Sys2Proof.Belt

open Sys2Proof.Machine Sys2Proof.Claims

open Classical in
/-- The first test that fails, without leaving out those of disabled bays and spurs, which ask nothing. -/
noncomputable def firstFailing (p : Params) (l : List SetupFault) : Option SetupFault :=
  l.find? fun f => decide (¬ setupHolds p f)

theorem firstFailing_append (p : Params) (l m : List SetupFault) :
    firstFailing p (l ++ m) = (firstFailing p l).or (firstFailing p m) :=
  List.find?_append

theorem firstFailing_eq_none_iff {p : Params} {l : List SetupFault} :
    firstFailing p l = none ↔ ∀ f ∈ l, setupHolds p f := by
  simp [firstFailing]

theorem firstFailing_eq_some_iff {p : Params} {l : List SetupFault} {f : SetupFault} :
    firstFailing p l = some f ↔
      ∃ before after, l = before ++ f :: after ∧ ¬ setupHolds p f ∧ ∀ g ∈ before, setupHolds p g := by
  rw [firstFailing, List.find?_eq_some_iff_append]
  constructor
  · rintro ⟨hf, before, after, hl, hb⟩
    exact ⟨before, after, hl, by simpa using hf, by simpa using hb⟩
  · rintro ⟨before, after, hl, hf, hb⟩
    exact ⟨by simpa using hf, before, after, hl, by simpa using hb⟩

/-- The first failing test of a run of tests with their results. -/
def firstFault (l : List (SetupFault × Bool)) : Option SetupFault := (l.find? fun t => !t.2).map Prod.fst

theorem firstFault_append (l m : List (SetupFault × Bool)) :
    firstFault (l ++ m) = (firstFault l).or (firstFault m) := by
  simp only [firstFault, List.find?_append]
  cases l.find? fun t => !t.2 <;> rfl

/-- The tests of one constraint over the enabled bays or spurs are those over all of them. -/
theorem firstFault_filter (p : Params) {g : Ix → SetupFault} {on ok : Ix → Bool}
    (h : ∀ k, setupHolds p (g k) ↔ (on k = true → ok k = true)) (l : List Ix) :
    firstFault ((l.filter on).map fun k => (g k, ok k)) = firstFailing p (l.map g) := by
  have hpred : ∀ k, (on k && !ok k) = true ↔ ¬ setupHolds p (g k) := fun k => by
    rw [h]; cases on k <;> cases ok k <;> decide
  induction l with
  | nil => rfl
  | cons k l ih =>
    rw [List.map_cons, firstFailing, List.find?_cons]
    by_cases hk : setupHolds p (g k)
    · have hkb := mt (hpred k).mp (not_not.mpr hk)
      simp only [hk, not_true, decide_false]
      refine Eq.trans ?_ ih
      cases hon : on k with
      | false => rw [List.filter_cons_of_neg (by simp [hon])]
      | true =>
        rw [List.filter_cons_of_pos hon, firstFault, List.map_cons, List.find?_cons_of_neg (by simpa [hon] using hkb)]
        rfl
    · have hkb := (hpred k).mpr hk
      simp only [hk, not_false_eq_true, decide_true]
      rw [Bool.and_eq_true] at hkb
      obtain ⟨hon, hok⟩ := hkb
      rw [List.filter_cons_of_pos hon, firstFault, List.map_cons,
        List.find?_cons_of_pos (p := fun t : SetupFault × Bool => !t.2) hok]
      rfl

/-- The tests of C8, by spur and then by bay. -/
theorem firstFault_flatMap (p : Params) {g : Ix → Ix → SetupFault} {on : Ix → Bool} {A : Ix → List (SetupFault × Bool)}
    (hon : ∀ i, on i = true → firstFault (A i) = firstFailing p (Ix.all.map (g i)))
    (hoff : ∀ i k, on i = false → setupHolds p (g i k)) (l : List Ix) :
    firstFault ((l.filter on).flatMap A) = firstFailing p (l.flatMap fun i => Ix.all.map (g i)) := by
  induction l with
  | nil => rfl
  | cons i l ih =>
    rw [List.flatMap_cons, firstFailing_append, ← ih]
    cases hi : on i with
    | true => rw [List.filter_cons_of_pos hi, List.flatMap_cons, firstFault_append, hon i hi]
    | false =>
      have hnone : firstFailing p (Ix.all.map (g i)) = none :=
        firstFailing_eq_none_iff.mpr (List.forall_mem_map.mpr fun k _ => hoff i k hi)
      rw [List.filter_cons_of_neg (by simp [hi]), hnone, Option.none_or]

theorem firstFault_zone (p : Params) :
    firstFault [(⟨1, none, none⟩, decide (p.holdPoint < p.zoneExit)),
        (⟨2, none, none⟩, decide (p.lenLarge < p.jamLen)), (⟨3, none, none⟩, decide (p.lenSmall ≤ p.lenLarge)),
        (⟨4, none, none⟩, decide (p.upLimit ≤ p.zoneBudget))] =
      firstFailing p [⟨1, none, none⟩, ⟨2, none, none⟩, ⟨3, none, none⟩, ⟨4, none, none⟩] := by
  by_cases h1 : p.holdPoint < p.zoneExit <;> by_cases h2 : p.lenLarge < p.jamLen <;>
    by_cases h3 : p.lenSmall ≤ p.lenLarge <;> by_cases h4 : p.upLimit ≤ p.zoneBudget <;>
    simp [firstFault, firstFailing, setupHolds, h1, h2, h3, h4]

theorem setupFault_eq (p : Params) : p.setupFault = firstFailing p setupOrder := by
  change firstFault p.setupTests = _
  have h8 : ∀ i, p.spurEnabled i = true →
      firstFault ((Ix.all.filter p.bayEnabled).map fun k => (⟨8, some i, some k⟩,
        decide ((p.spur.get i).merge + p.lenLarge + p.gap < (p.bay.get k).offset))) =
        firstFailing p (Ix.all.map fun k => ⟨8, some i, some k⟩) := fun i hi =>
    firstFault_filter p (fun k => by
      have henable : (p.spur.get i).enable = 1 := by simpa [Params.spurEnabled] using hi
      simp [setupHolds, Params.bayEnabled, henable]) _
  simp only [Params.setupTests, setupOrder, firstFault_append, firstFailing_append]
  rw [firstFault_zone,
    firstFault_filter p (g := fun k => ⟨5, none, some k⟩) fun k => by simp [setupHolds, Params.bayEnabled],
    firstFault_filter p (g := fun k => ⟨6, none, some k⟩) fun k => by simp [setupHolds, Params.bayEnabled],
    firstFault_filter p (g := fun i => ⟨7, some i, none⟩) fun i => by
      simp only [setupHolds, Params.spurEnabled, decide_eq_true_eq]; exact imp_congr_right fun _ => by omega,
    firstFault_flatMap p (g := fun i k => ⟨8, some i, some k⟩) h8 fun i k hi => by
      simp only [Params.spurEnabled, decide_eq_false_iff_not] at hi
      exact fun henable => absurd henable hi,
    firstFault_filter p (g := fun i => ⟨9, some i, none⟩) fun i => by simp [setupHolds, Params.spurEnabled]]

theorem names_of_setupOrder : ∀ f ∈ setupOrder,
    (f.constraint = 5 ∨ f.constraint = 6 ↔ f.bay.isSome = true ∧ f.spur = none) ∧
    (f.constraint = 7 ∨ f.constraint = 9 ↔ f.spur.isSome = true ∧ f.bay = none) ∧
    (f.constraint = 8 ↔ f.spur.isSome = true ∧ f.bay.isSome = true) := by
  decide

theorem setupHolds_all_iff (p : Params) : (∀ f ∈ setupOrder, setupHolds p f) ↔
    p.holdPoint < p.zoneExit ∧ p.lenLarge < p.jamLen ∧ p.lenSmall ≤ p.lenLarge ∧ p.upLimit ≤ p.zoneBudget ∧
      (∀ k, setupHolds p ⟨5, none, some k⟩) ∧ (∀ k, setupHolds p ⟨6, none, some k⟩) ∧
      (∀ i, setupHolds p ⟨7, some i, none⟩) ∧ (∀ i k, setupHolds p ⟨8, some i, some k⟩) ∧
      ∀ i, setupHolds p ⟨9, some i, none⟩ := by
  simp only [setupOrder, List.forall_mem_append, List.forall_mem_cons, List.forall_mem_map, List.forall_mem_flatMap,
    Ix.forall_all]
  simp [setupHolds, and_assoc]

/-- Settles O23: the tests of R22 are searched in their order, those of disabled bays and spurs asking nothing. -/
theorem setupConstraintsAreTested : Obligations.SetupConstraintsAreTested := by
  unfold Obligations.SetupConstraintsAreTested
  intro p
  refine ⟨?_, fun f => ?_, fun f hf => ?_⟩
  · have h7 : ∀ i, setupHolds p ⟨7, some i, none⟩ ↔
        ((p.spur.get i).enable = 1 → (p.spur.get i).merge ≥ (p.spur.get i).adj + (p.lenLarge + p.gap)) := fun i =>
      imp_congr_right fun _ => by omega
    rw [setupFault_eq, firstFailing_eq_none_iff, setupHolds_all_iff]
    simp only [h7]
    rfl
  · rw [setupFault_eq, firstFailing_eq_some_iff]
  · rw [setupFault_eq, firstFailing_eq_some_iff] at hf
    obtain ⟨before, after, hsplit, _⟩ := hf
    exact names_of_setupOrder f (by simp [hsplit])

end Sys2Proof.Belt
end

section
/-! The acts of the blocks on records, lists, queues, reports and counters: what they leave alone. -/

namespace Sys2Proof.Machine

/-- What no act on records, lists, queues, reports and counters touches. -/
structure FixedPart where
  inputs : Inputs
  time : Timebase
  pos : PositionUnit
  eyes : EyeUnit
  params : Params
  jamAt : Option Pos
  routes : RouteTables
  node : NodeControl
  pending : List Instr

def State.fixedPart (s : State) : FixedPart :=
  ⟨s.inputs, s.time, s.pos, s.eyes, s.params, s.jamAt, s.routes, s.node, s.pending⟩

/-- t differs from s at most in records, lists, queues, reports and counters. -/
def State.RecordsOnly (s t : State) : Prop := t.fixedPart = s.fixedPart

namespace State.RecordsOnly

variable {s t u : State}

theorem inputs (h : RecordsOnly s t) : t.inputs = s.inputs := congrArg FixedPart.inputs h
theorem time (h : RecordsOnly s t) : t.time = s.time := congrArg FixedPart.time h
theorem pos (h : RecordsOnly s t) : t.pos = s.pos := congrArg FixedPart.pos h
theorem eyes (h : RecordsOnly s t) : t.eyes = s.eyes := congrArg FixedPart.eyes h
theorem params (h : RecordsOnly s t) : t.params = s.params := congrArg FixedPart.params h
theorem jamAt (h : RecordsOnly s t) : t.jamAt = s.jamAt := congrArg FixedPart.jamAt h
theorem routes (h : RecordsOnly s t) : t.routes = s.routes := congrArg FixedPart.routes h
theorem node (h : RecordsOnly s t) : t.node = s.node := congrArg FixedPart.node h
theorem pending (h : RecordsOnly s t) : t.pending = s.pending := congrArg FixedPart.pending h

theorem refl (s : State) : RecordsOnly s s := rfl

theorem trans (h : RecordsOnly s t) (k : RecordsOnly t u) : RecordsOnly s u := Eq.trans k h

theorem ite {p : Prop} [Decidable p] (h : RecordsOnly s t) (k : RecordsOnly s u) :
    RecordsOnly s (if p then t else u) := by
  split <;> assumption

theorem report (k : ReportKind) (d : Nat) (tag : BitVec 32) (order : BitVec 24) (s : State) :
    RecordsOnly s (s.report k d tag order) := by
  rw [State.report_frame]; exact rfl

theorem offer (e : EventCode) (k : Option Cls) (q : Option Nat) (s : State) : RecordsOnly s (s.offer e k q) := rfl

theorem modBay (k : Ix) (f : Bay → Bay) (s : State) : RecordsOnly s (s.modBay k f) := rfl

theorem modSpur (i : Ix) (f : Spur → Spur) (s : State) : RecordsOnly s (s.modSpur i f) := rfl

theorem modPort (p : Port) (f : LinePort → LinePort) (s : State) : RecordsOnly s (s.modPort p f) := rfl

theorem releaseDecision (d : Decision) (s : State) : RecordsOnly s (s.releaseDecision d) := by
  rw [State.releaseDecision_frame]; exact rfl

theorem expireTag (s : State) : RecordsOnly s s.expireTag := by
  rw [State.expireTag_frame]; exact rfl

theorem takeTag (s : State) : RecordsOnly s s.takeTag.2 := by
  unfold State.takeTag; split <;> exact rfl

theorem reportMissing (d : Nat) (ns : List Notice) (s : State) : RecordsOnly s (s.reportMissing d ns) := by
  rw [State.reportMissing_frame]; exact rfl

theorem dropOverdue (s : State) : RecordsOnly s s.dropOverdue := by
  rw [State.dropOverdue_frame]; exact rfl

theorem stickSpur (i : Ix) (d : Nat) (s : State) : RecordsOnly s (s.stickSpur i d) := by
  rw [State.stickSpur_frame]; exact rfl

theorem testArmed (t : Tote) (s : State) : RecordsOnly s (s.testArmed t).2 := by
  rw [State.testArmed_frame]; exact rfl

theorem divertTests_testDivert (s : State) : RecordsOnly s (s.divertTests State.testDivert) := by
  rw [State.divertTests_frame State.testDivert_frame]; exact rfl

theorem divertTests_testArmed (s : State) : RecordsOnly s (s.divertTests State.testArmed) := by
  rw [State.divertTests_frame State.testArmed_frame]; exact rfl

theorem claims (s : State) : RecordsOnly s s.claims := by
  rw [State.claims_frame]; exact rfl

theorem exitTests (s : State) : RecordsOnly s s.exitTests := by
  rw [State.exitTests_frame]; exact rfl

theorem reTest (s : State) : RecordsOnly s s.reTest := by
  rw [State.reTest_frame]; exact rfl

theorem appendEntering (lead : Pos) (i : Ident) (stray noRead : Bool) (s : State) :
    RecordsOnly s (s.appendEntering lead i stray noRead) := by
  rw [State.appendEntering_frame]; exact rfl

theorem assemblyLanding (k : Ix) (r : LandingRec) (s : State) : RecordsOnly s (s.assemblyLanding k r) := by
  rw [State.assemblyLanding_frame]; exact rfl

theorem takeFront (k : Ix) (d : Nat) (s : State) : RecordsOnly s (s.takeFront k d) := by
  rw [State.takeFront_frame]; exact rfl

theorem takeMany (k : Ix) (d n : Nat) (s : State) : RecordsOnly s (State.takeMany k d n s) := by
  rw [State.takeMany_frame]; exact rfl

theorem frameArrives (p : Port) (s : State) : RecordsOnly s (s.frameArrives p) := by
  rw [State.frameArrives_frame]; exact rfl

theorem forward (p : Port) (f : Frame) (s : State) : RecordsOnly s (s.forward p f) := by
  rw [State.forward_frame]; exact rfl

end State.RecordsOnly

end Sys2Proof.Machine
end

section
/-! What the end of an event, a halt and a position change keep (R4, R8, R155, R169). -/

namespace Sys2Proof.Machine

/-! ### The end of an event -/

@[simp] theorem State.finish_inputs (s : State) : s.finish.inputs = s.inputs := by rw [State.finish_frame]
@[simp] theorem State.finish_time (s : State) : s.finish.time = s.time := by rw [State.finish_frame]
@[simp] theorem State.finish_eyes (s : State) : s.finish.eyes = s.eyes := by rw [State.finish_frame]
@[simp] theorem State.finish_params (s : State) : s.finish.params = s.params := by rw [State.finish_frame]
@[simp] theorem State.finish_expected (s : State) : s.finish.expected = s.expected := by rw [State.finish_frame]
@[simp] theorem State.finish_jamAt (s : State) : s.finish.jamAt = s.jamAt := by rw [State.finish_frame]
@[simp] theorem State.finish_routes (s : State) : s.finish.routes = s.routes := by rw [State.finish_frame]
@[simp] theorem State.finish_node (s : State) : s.finish.node = s.node := by rw [State.finish_frame]
@[simp] theorem State.finish_counters (s : State) : s.finish.counters = s.counters := by rw [State.finish_frame]
@[simp] theorem State.finish_pending (s : State) : s.finish.pending = s.pending := by rw [State.finish_frame]

@[simp] theorem State.finish_pos (s : State) :
    s.finish.pos = { s.pos with windowDriven := s.pos.windowDriven && s.beltRun } := by rw [State.finish_frame]

theorem State.startFrame_exitHold (p : Port) (c : Choice) (s : State) :
    (s.startFrame p c).credit.exitHold = s.credit.exitHold := by
  unfold State.startFrame
  split
  · rfl
  · split <;> rfl
  · split <;> rfl
  · split <;> rfl
  · rfl

theorem State.pump_exitHold (p : Port) (s : State) : (s.pump p).credit.exitHold = s.credit.exitHold := by
  unfold State.pump
  split
  · rfl
  · split
    · exact State.startFrame_exitHold ..
    · rfl

@[simp] theorem State.finish_exitHold (s : State) : s.finish.credit.exitHold = s.credit.exitHold := by
  rw [State.finish, State.pump_exitHold, State.pump_exitHold]

/-! ### A halt -/

/-- A halt changes no more of Node Control than state and cause (R155). -/
theorem State.enterHalt_node (c : HaltCause) (s : State) : (s.enterHalt c).node =
    if s.node.state = .run then { s.node with state := .halt, cause := c } else s.node := by
  unfold State.enterHalt
  split
  · next h =>
    rw [State.stickSpur_frame, State.stickSpur_frame .i1, State.stickSpur_frame .i0, if_pos h]
    simp
  · next h => rw [if_neg h]

theorem State.enterHalt_not_run (c : HaltCause) (s : State) : (s.enterHalt c).node.state ≠ .run := by
  rw [State.enterHalt_node]
  split
  · exact nofun
  · assumption

/-! ### A change of P -/

@[simp] theorem State.positionChange_pos (s : State) : s.positionChange.pos = s.pos := by rw [State.positionChange_frame]
@[simp] theorem State.positionChange_time (s : State) : s.positionChange.time = s.time := by
  rw [State.positionChange_frame]
@[simp] theorem State.positionChange_eyes (s : State) : s.positionChange.eyes = s.eyes := by
  rw [State.positionChange_frame]
@[simp] theorem State.positionChange_params (s : State) : s.positionChange.params = s.params := by
  rw [State.positionChange_frame]
@[simp] theorem State.positionChange_routes (s : State) : s.positionChange.routes = s.routes := by
  rw [State.positionChange_frame]

/-! ### No arbitration outside RUN -/

theorem State.eligible_of_not_run {s : State} (h : s.node.state ≠ .run) (i : Ix) : s.eligible i = false := by
  simp [State.eligible, h]

/-- Without an eligible spur an arbitration changes nothing (R108). -/
theorem State.arbitrate_of_none {s : State} (h : Ix.all.filter s.eligible = []) : s.arbitrate = s := by
  unfold State.arbitrate
  simp [h, State.winner, State.candidates]

theorem State.reTest_of_not_run {s : State} (h : s.node.state ≠ .run) : s.reTest = s.grantCredits := by
  have hnone : Ix.all.filter s.eligible = [] :=
    List.filter_eq_nil_iff.mpr fun i _ => by simp [State.eligible_of_not_run h]
  rw [State.reTest, State.arbitrate_of_none hnone]

end Sys2Proof.Machine
end

section
/-! Positions and encoder samples (R1 to R6). -/

namespace Sys2Proof.Belt

open Sys2Proof.Machine Sys2Proof.Claims

theorem dist_eq (a b : Pos) :
    dist a b = if (b - a).toNat < 8388608 then ((b - a).toNat : Int) else (b - a).toNat - 16777216 := by
  rw [Machine.dist, BitVec.toInt_eq_toNat_cond]
  exact if_congr (by omega) rfl rfl

/-- Settles O4: d is the difference modulo 2^24, taken from -2^23 to 2^23 - 1. -/
theorem reachedIsSignedDifference : Obligations.ReachedIsSignedDifference := by
  unfold Obligations.ReachedIsSignedDifference
  have hreached : ∀ a b : Pos, reached b a = true ↔ (b - a).toNat < 8388608 := fun a b => decide_eq_true_iff
  refine ⟨fun a b => ⟨?_, hreached a b⟩, fun a b => ?_, fun p => ?_⟩
  · rw [hreached, dist_eq]; split <;> omega
  · have := (b - a).isLt
    rw [dist_eq]; split <;> omega
  · constructor <;> split <;> bv_omega

/-! ### The transitions of R1 -/

theorem transitionOf_eq_one_iff : ∀ prev now, transitionOf prev now = 1 ↔ (prev, now) ∈ forwardMoves := by decide

theorem transitionOf_eq_three_iff : ∀ prev now, transitionOf prev now = 3 ↔ (now, prev) ∈ forwardMoves := by decide

theorem transitionOf_self : ∀ now, transitionOf now now = 0 := by decide

theorem transitionOf_of_invalid : ∀ prev now, prev ≠ now → (prev, now) ∉ forwardMoves → (now, prev) ∉ forwardMoves →
    transitionOf prev now = 2 := by decide

theorem transitionOf_of_both_change : ∀ (prev : Bool × Bool) (a b : Bool), prev.1 ≠ a → prev.2 ≠ b →
    transitionOf prev (a, b) = 2 := by decide

/-- The state with a sample pair kept. -/
def withPair (now : Bool × Bool) (s : State) : State := { s with pos := { s.pos with encPrev := some now } }

theorem encoderSample_first {s : State} (h : s.pos.encPrev = none) (now : Bool × Bool) :
    s.encoderSample now = withPair now s := by
  simp only [State.encoderSample, h]; rfl

theorem encoderSample_forward {s : State} {prev now : Bool × Bool} (h : s.pos.encPrev = some prev)
    (hm : (prev, now) ∈ forwardMoves) : s.encoderSample now = (withPair now s).forwardTransition := by
  simp only [State.encoderSample, h, (transitionOf_eq_one_iff prev now).mpr hm]; rfl

theorem encoderSample_reverse {s : State} {prev now : Bool × Bool} (h : s.pos.encPrev = some prev)
    (hm : (now, prev) ∈ forwardMoves) : s.encoderSample now = (withPair now s).reverseTransition := by
  simp only [State.encoderSample, h, (transitionOf_eq_three_iff prev now).mpr hm]; rfl

theorem encoderSample_same {s : State} {now : Bool × Bool} (h : s.pos.encPrev = some now) :
    s.encoderSample now = withPair now s := by
  simp only [State.encoderSample, h, transitionOf_self]; rfl

theorem encoderSample_invalid {s : State} {prev now : Bool × Bool} (h : s.pos.encPrev = some prev)
    (hm : transitionOf prev now = 2) : s.encoderSample now = (withPair now s).invalidTransition := by
  simp only [State.encoderSample, h, hm]; rfl

theorem forwardTransition_pos (s : State) : s.forwardTransition.pos =
    if (s.params.encDiv : Int) ≤ s.pos.sub + 1 then s.pos.advance else { s.pos with sub := s.pos.sub + 1 } := by
  unfold State.forwardTransition; split <;> simp

theorem reverseTransition_pos (s : State) : s.reverseTransition.pos =
    if s.pos.sub - 1 ≤ -(s.params.encDiv : Int) then s.pos.stepBack else { s.pos with sub := s.pos.sub - 1 } := by
  unfold State.reverseTransition; split <;> simp

/-- An invalid transition counted and offered, before any halt (R6). -/
def countedInvalid (s : State) : State :=
  { s with
    pos := { s.pos with invalid := min 255 (s.pos.invalid + 1) }, counters := counted .encoderError none none s }

theorem invalidTransition_eq (s : State) : s.invalidTransition =
    if s.node.state = .run ∧ 4 < min 255 (s.pos.invalid + 1) then ((countedInvalid s).enterHalt .encoder).reTest
    else countedInvalid s := rfl

/-- A transition changes neither the clock nor the eyes, the parameters or the routes. -/
theorem encoderSample_keeps (now : Bool × Bool) (s : State) :
    (s.encoderSample now).time = s.time ∧ (s.encoderSample now).eyes = s.eyes ∧
      (s.encoderSample now).params = s.params ∧ (s.encoderSample now).routes = s.routes ∧
      (s.encoderSample now).pos = { s.pos with
        P := (s.encoderSample now).pos.P, Hw := (s.encoderSample now).pos.Hw, sub := (s.encoderSample now).pos.sub
        encPrev := some now, invalid := (s.encoderSample now).pos.invalid } := by
  cases h : s.pos.encPrev with
  | none => rw [encoderSample_first h]; exact ⟨rfl, rfl, rfl, rfl, rfl⟩
  | some prev =>
    by_cases hf : (prev, now) ∈ forwardMoves
    · rw [encoderSample_forward h hf, forwardTransition_pos]
      unfold State.forwardTransition
      split <;> simp [withPair, PositionUnit.advance]
    by_cases hr : (now, prev) ∈ forwardMoves
    · rw [encoderSample_reverse h hr, reverseTransition_pos]
      unfold State.reverseTransition
      split <;> simp [withPair, PositionUnit.stepBack]
    by_cases he : prev = now
    · subst he; rw [encoderSample_same h]; exact ⟨rfl, rfl, rfl, rfl, rfl⟩
    · rw [encoderSample_invalid h (transitionOf_of_invalid _ _ he hf hr), invalidTransition_eq]
      split
      · rw [State.reTest_frame, State.enterHalt_frame]; exact ⟨rfl, rfl, rfl, rfl, rfl⟩
      · exact ⟨rfl, rfl, rfl, rfl, rfl⟩

/-- Settles O5: P, Hw and the sub-count are those of the transition; no test of the event reads them back. -/
theorem encoderMovesPosition : Obligations.EncoderMovesPosition := by
  unfold Obligations.EncoderMovesPosition
  intro s a b
  obtain ⟨htime, heyes, hparams, hroutes, hpos⟩ := encoderSample_keeps (a, b) s
  refine ⟨_, rfl, ?_, ?_, ?_, ?_, ?_, by simpa, by simpa, by simpa, by simpa, ?_⟩
  iterate 5 rw [State.finish_pos, hpos]
  cases h : s.pos.encPrev with
  | none => simp [encoderSample_first h, withPair]
  | some prev =>
    simp only [State.finish_pos, State.finish_counters]
    by_cases hf : (prev, (a, b)) ∈ forwardMoves
    · rw [if_pos hf, encoderSample_forward h hf, forwardTransition_pos]
      change _ ∧ ite ((withPair (a, b) s).params.encDiv ≤ (withPair (a, b) s).pos.sub + 1) _ _
      split <;> exact ⟨rfl, rfl, rfl, rfl⟩
    by_cases hr : ((a, b), prev) ∈ forwardMoves
    · rw [if_neg hf, if_pos hr, encoderSample_reverse h hr, reverseTransition_pos]
      change _ ∧ ite ((withPair (a, b) s).pos.sub - 1 ≤ -((withPair (a, b) s).params.encDiv : Int)) _ _
      split <;> exact ⟨rfl, rfl, rfl, rfl⟩
    rw [if_neg hf, if_neg hr]
    by_cases he : prev = (a, b)
    · subst he
      simp [encoderSample_same h, withPair]
    · rw [encoderSample_invalid h (transitionOf_of_invalid _ _ he hf hr), invalidTransition_eq, if_neg he]
      split
      · rw [State.reTest_of_not_run (State.enterHalt_not_run _ _), State.enterHalt_frame]
        exact ⟨rfl, rfl, rfl, rfl, rfl⟩
      · exact ⟨rfl, rfl, rfl, rfl, rfl⟩

end Sys2Proof.Belt
end

section
/-! The tests of an event in which P or the compensations change, record by record (R4, R79 to R82). -/

namespace Sys2Proof.Belt

open Sys2Proof.Machine Sys2Proof.Claims

/-! ### The Divert Unit's tests do not read the zone list -/

theorem report_withZone (k : ReportKind) (d : Nat) (tag : BitVec 32) (order : BitVec 24) (s : State) (z : List Tote) :
    State.report k d tag order { s with zone := z } = { s.report k d tag order with zone := z } := by
  unfold State.report; split <;> rfl

theorem missEffects_withZone (c : MissCause) (k : Ix) (i : Ident) (s : State) (z : List Tote) :
    State.missEffects c k i { s with zone := z } = { s.missEffects c k i with zone := z } :=
  congrArg (State.offer .divertMiss (some i.cls) (some k.toNat)) (report_withZone .divertMiss _ _ _ (s.release k) z)

/-- A test of one record that does not depend on the zone list it stands in. -/
def ZoneBlind (test : Tote → State → Tote × State) : Prop :=
  ∀ (t : Tote) (s : State) (z : List Tote),
    test t { s with zone := z } = ((test t s).1, { (test t s).2 with zone := z })

theorem zoneBlind_testArmed : ZoneBlind State.testArmed := by
  intro t s z
  unfold State.testArmed
  cases t.track with
  | armed len k base late target =>
    simp only [missEffects_withZone]
    split
    · rfl
    split
    · cases s.node.state with
      | config => rfl
      | halt => rfl
      | run => simp only []; split <;> rfl
    · rfl
  | _ => rfl

theorem zoneBlind_testDivert : ZoneBlind State.testDivert := by
  intro t s z
  unfold State.testDivert
  cases t.track with
  | confirming len k base fired windowEnd =>
    simp only [missEffects_withZone]
    split <;> rfl
  | _ => exact zoneBlind_testArmed t s z

theorem walkZone_withZone {test : Tote → State → Tote × State} (h : ZoneBlind test) (l : List Tote) (s : State)
    (z : List Tote) :
    walkZone test l { s with zone := z } = ((walkZone test l s).1, { (walkZone test l s).2 with zone := z }) := by
  induction l generalizing s with
  | nil => rfl
  | cons t l ih => simp only [walkZone, h t s z, ih]

/-! ### Tests by place -/

/-- A test of the record at place n of the zone list. -/
def testAt (test : Tote → State → Tote × State) (n : Nat) (s : State) : State :=
  match s.zone[n]? with
  | some t => { (test t s).2 with zone := s.zone.set n (test t s).1 }
  | none => s

theorem divertAt_eq (n : Nat) (s : State) : divertAt n s = testAt State.testDivert n s := by
  unfold divertAt testAt
  cases s.zone[n]? <;> rfl

theorem testArmed_of_code {t : Tote} (h : t.track.code ≠ 2) (s : State) : s.testArmed t = (t, s) := by
  unfold State.testArmed
  cases ht : t.track with
  | armed => rw [ht] at h; exact absurd rfl h
  | _ => rfl

theorem testDivert_of_code {t : Tote} (h : t.track.code ≠ 3) (s : State) : s.testDivert t = s.testArmed t := by
  unfold State.testDivert
  cases ht : t.track with
  | confirming => rw [ht] at h; exact absurd rfl h
  | _ => rfl

theorem armedAt_eq (n : Nat) (s : State) : armedAt n s = testAt State.testArmed n s := by
  rw [armedAt, divertAt_eq]
  unfold testAt
  cases ht : s.zone[n]? with
  | none => rfl
  | some t =>
    by_cases hc : t.track.code = 2
    · simp [hc, testDivert_of_code (t := t) (by simp [hc])]
    · have hset : s.zone.set n t = s.zone := by
        obtain ⟨hn, hget⟩ := List.getElem?_eq_some_iff.mp ht
        rw [← hget, List.set_getElem_self]
      simp [hc, testArmed_of_code hc, hset]

/-- The tests of the records behind `front`, place by place, are the walk over them. -/
theorem foldl_testAt {test : Tote → State → Tote × State} (h : ZoneBlind test) (l front : List Tote) (s : State)
    (hz : s.zone = front ++ l) :
    (List.range' front.length l.length).foldl (fun u n => testAt test n u) s =
      { (walkZone test l s).2 with zone := front ++ (walkZone test l s).1 } := by
  induction l generalizing front s with
  | nil => simp [walkZone, ← hz]
  | cons t l ih =>
    have hget : s.zone[front.length]? = some t := by simp [hz]
    have hset : s.zone.set front.length (test t s).1 = front ++ (test t s).1 :: l := by simp [hz]
    have hat : testAt test front.length s = { (test t s).2 with zone := front ++ (test t s).1 :: l } := by
      rw [testAt, hget, ← hset]
    have hnext := ih (front ++ [(test t s).1]) (testAt test front.length s) (by rw [hat]; simp)
    rw [List.length_append, List.length_singleton] at hnext
    rw [List.length_cons, List.range'_succ, List.foldl_cons, hnext, hat, walkZone_withZone h]
    simp [walkZone]

theorem divertTests_eq_foldl {test : Tote → State → Tote × State} (h : ZoneBlind test) (s : State) :
    s.divertTests test = (List.range s.zone.length).foldl (fun u n => testAt test n u) s := by
  rw [List.range_eq_range']
  exact (foldl_testAt h s.zone [] s rfl).symm

/-! ### The position change event -/

theorem tagExpiry_eq (s : State) : tagExpiry s = s.expireTag := by
  unfold tagExpiry State.expireTag State.tagExpired
  cases s.tagPort.pending <;> rfl

theorem jamHalt_eq (s : State) : jamHalt s = s.jamTest := by
  unfold jamHalt State.jamTest State.jammed
  cases s.jamAt with
  | none => simp
  | some a => simp [and_assoc]

theorem afterMove_eq (s : State) : afterMove s = s.positionChange := by
  unfold afterMove State.positionChange
  simp only [divertTests_eq_foldl zoneBlind_testDivert, jamHalt_eq, tagExpiry_eq, divertAt_eq]

theorem forwardTransition_of_le {s : State} (h : (s.params.encDiv : Int) ≤ s.pos.sub + 1) :
    s.forwardTransition = ({ s with pos := s.pos.advance } : State).positionChange := if_pos h

theorem forwardTransition_of_lt {s : State} (h : s.pos.sub + 1 < (s.params.encDiv : Int)) :
    s.forwardTransition = { s with pos := { s.pos with sub := s.pos.sub + 1 } } := if_neg (not_le.mpr h)

theorem reverseTransition_of_le {s : State} (h : s.pos.sub - 1 ≤ -(s.params.encDiv : Int)) :
    s.reverseTransition = ({ s with pos := s.pos.stepBack } : State).positionChange := if_pos h

theorem reverseTransition_of_lt {s : State} (h : -(s.params.encDiv : Int) < s.pos.sub - 1) :
    s.reverseTransition = { s with pos := { s.pos with sub := s.pos.sub - 1 } } := if_neg (not_le.mpr h)

/-- Settles O6: the transition's own effect on the Position Unit, and the tests of log 7 where P has changed. -/
theorem movesRunEveryTest : Obligations.MovesRunEveryTest := by
  unfold Obligations.MovesRunEveryTest
  intro s a b prev h kept
  have hexec : exec (.encoderTransition a b) s = .next (s.encoderSample (a, b)).finish := rfl
  refine ⟨fun hf => ?_, fun hr => ?_, fun he => ?_, fun ha hb => ?_⟩
  · rw [hexec, encoderSample_forward h hf]
    refine ⟨fun hd => ?_, fun hd => ?_⟩
    · rw [forwardTransition_of_le (s := withPair (a, b) s) hd, afterMove_eq]; rfl
    · rw [forwardTransition_of_lt (s := withPair (a, b) s) hd]; rfl
  · rw [hexec, encoderSample_reverse h hr]
    refine ⟨fun hd => ?_, fun hd => ?_⟩
    · rw [reverseTransition_of_le (s := withPair (a, b) s) hd, afterMove_eq]; rfl
    · rw [reverseTransition_of_lt (s := withPair (a, b) s) hd]; rfl
  · subst he
    have hsame : withPair (a, b) s = s := by rw [withPair, ← h]
    rw [hexec, encoderSample_same h, hsame]
  · rw [hexec, encoderSample_invalid h (transitionOf_of_both_change prev a b ha hb), invalidTransition_eq]
    intro n x
    refine ⟨fun hrun hn => ?_, fun hno => ?_⟩
    · rw [if_pos (show (withPair (a, b) s).node.state = .run ∧ 4 < min 255 ((withPair (a, b) s).pos.invalid + 1) from
        ⟨hrun, hn⟩)]
      rfl
    · have hx : ¬ ((withPair (a, b) s).node.state = .run ∧ 4 < min 255 ((withPair (a, b) s).pos.invalid + 1)) :=
        fun ⟨hrun, hn⟩ => hno.elim (fun h => h hrun) (not_le.mpr hn)
      rw [if_neg hx]
      rfl

end Sys2Proof.Belt
end

section
/-! Speed samples (R6 to R9, R80). -/

namespace Sys2Proof.Belt

open Sys2Proof.Machine Sys2Proof.Claims

/-- The speed of the window that ends now (R7). -/
def speedOf (s : State) : Int := max (-32767) (min 32767 (Machine.dist s.pos.windowStart s.pos.P))

/-- The window that ends now brings STALL (R8). -/
def stalls (s : State) : Prop :=
  s.pos.windowDriven = true ∧ speedOf s = 0 ∧ s.params.stallMs ≤ s.pos.stall + s.pos.windowLen

theorem stalled_iff (s : State) : s.stalled = true ↔ stalls s := by
  change (s.pos.stallAfter (speedOf s) s.params.stallMs).2 = true ↔ stalls s
  unfold PositionUnit.stallAfter stalls
  by_cases hd : s.pos.windowDriven = true <;> by_cases hS : speedOf s = 0 <;>
    by_cases hm : s.params.stallMs ≤ s.pos.stall + s.pos.windowLen <;> simp [hd, hS, hm]

theorem stallAfter_fst (p : PositionUnit) (S : Int) (stallMs : Nat) : (p.stallAfter S stallMs).1 =
    if p.windowDriven = true ∧ S = 0 ∧ p.stall + p.windowLen < stallMs then p.stall + p.windowLen else 0 := by
  unfold PositionUnit.stallAfter
  by_cases hd : p.windowDriven = true <;> by_cases hS : S = 0 <;>
    by_cases hm : stallMs ≤ p.stall + p.windowLen <;> simp [hd, hS, hm, ← Nat.not_le]

theorem leadCompensation_eq (S : Int) (latency W : Nat) : (leadCompensation S latency W : Int) =
    if S ≤ 0 then 0 else min 1023 ((S * latency + W / 2) / W) := by
  unfold leadCompensation
  split
  · rfl
  · next hS =>
    have hnum : 0 ≤ S * latency + (W : Int) / 2 := by
      have := mul_nonneg (not_le.mp hS).le (Int.natCast_nonneg latency)
      omega
    have hq : 0 ≤ (S * latency + (W : Int) / 2) / W := Int.ediv_nonneg hnum (Int.natCast_nonneg W)
    rw [Int.toNat_of_nonneg (le_min (by decide) hq)]
    rfl

theorem leadCompensation_le (S : Int) (latency W : Nat) : leadCompensation S latency W ≤ 1023 := by
  have := leadCompensation_eq S latency W
  split at this <;> omega

theorem retarget_eq_aimed (s : State) (t : Tote) : s.retarget t = aimed s.pos.comp t := by
  unfold State.retarget aimed
  cases t.track <;> rfl

/-! ### The parts of the event -/

/-- The Position Unit's part of a speed sample. -/
def sampled (s : State) : State := { s with pos := s.pos.sample s.params }

/-- The halt a STALL brings. -/
def haltOnStall (s : State) : State :=
  if s.stalled then (sampled s).enterHalt .stall else sampled s

/-- The fire targets set anew (R80). -/
def retargeted (s : State) : State := { s with zone := s.zone.map (aimed s.pos.comp) }

theorem takeSample_eq (s : State) :
    s.takeSample = ((retargeted (haltOnStall s)).divertTests State.testArmed).claims.reTest := by
  have haim : ∀ x : State, { x with zone := x.zone.map x.retarget } = retargeted x := fun x => by
    rw [retargeted, funext (retarget_eq_aimed x)]
  rw [← haim]; rfl

theorem haltOnStall_of_stalls {s : State} (h : stalls s) : haltOnStall s = (sampled s).enterHalt .stall :=
  if_pos ((stalled_iff s).mpr h)

theorem haltOnStall_of_not_stalls {s : State} (h : ¬ stalls s) : haltOnStall s = sampled s :=
  if_neg (mt (stalled_iff s).mp h)

theorem haltOnStall_frame (s : State) : haltOnStall s = { sampled s with
    node := (haltOnStall s).node
    spurs := (haltOnStall s).spurs
    bays := (haltOnStall s).bays
    reports := (haltOnStall s).reports
    dropped := (haltOnStall s).dropped } := by
  unfold haltOnStall
  split
  · rw [State.enterHalt_frame]
  · rfl

/-- After the halt and the new targets only records, lists, queues, reports and counters change. -/
theorem recordsOnly_takeSample (s : State) : State.RecordsOnly (haltOnStall s) s.takeSample := by
  rw [takeSample_eq]
  have haim : State.RecordsOnly (haltOnStall s) (retargeted (haltOnStall s)) := rfl
  exact ((haim.trans (.divertTests_testArmed _)).trans (.claims _)).trans (.reTest _)

theorem takeSample_expected (s : State) : s.takeSample.expected = s.expected := by
  have hretest (x : State) : x.reTest.expected = x.expected := by rw [State.reTest_frame]
  have hclaims (x : State) : x.claims.expected = x.expected := by rw [State.claims_frame]
  have htests (x : State) : (x.divertTests State.testArmed).expected = x.expected := by
    rw [State.divertTests_frame State.testArmed_frame]
  have hhalt : (haltOnStall s).expected = s.expected := by rw [haltOnStall_frame]; rfl
  rw [takeSample_eq, hretest, hclaims, htests]
  exact hhalt

theorem takeSample_pos (s : State) : s.takeSample.pos = s.pos.sample s.params := by
  rw [(recordsOnly_takeSample s).pos, haltOnStall_frame]; rfl

theorem takeSample_node_of_stalls {s : State} (hrun : s.node.state = .run) (h : stalls s) :
    s.takeSample.node = { s.node with state := .halt, cause := .stall } := by
  rw [(recordsOnly_takeSample s).node, haltOnStall_of_stalls h, State.enterHalt_node]
  exact if_pos hrun

theorem takeSample_node_of_not {s : State} (h : s.node.state ≠ .run ∨ ¬ stalls s) : s.takeSample.node = s.node := by
  rw [(recordsOnly_takeSample s).node]
  by_cases hs : stalls s
  · rw [haltOnStall_of_stalls hs, State.enterHalt_node]
    exact if_neg (h.resolve_right (not_not.mpr hs))
  · rw [haltOnStall_of_not_stalls hs]; rfl

/-- Settles O7: the Position Unit's part fixes S and the rest of the position, and the tests that follow keep them. -/
theorem speedSampleMeasuresTheBelt : Obligations.SpeedSampleMeasuresTheBelt := by
  unfold Obligations.SpeedSampleMeasuresTheBelt
  intro s
  have hrec := recordsOnly_takeSample s
  have hpos : s.takeSample.finish.pos = { s.pos.sample s.params with windowDriven := s.takeSample.beltRun } := by
    rw [State.finish_pos, takeSample_pos]; rfl
  have hS : s.takeSample.finish.pos.S = speedOf s := by rw [hpos]; rfl
  have hcomp : s.takeSample.finish.pos.comp = (s.pos.sample s.params).comp := by rw [hpos]
  have hstall : s.takeSample.finish.pos.stall =
      if s.pos.windowDriven = true ∧ speedOf s = 0 ∧ s.pos.stall + s.pos.windowLen < s.params.stallMs then
        s.pos.stall + s.pos.windowLen else 0 := by
    rw [hpos]; exact stallAfter_fst ..
  refine ⟨s.takeSample.finish, rfl, hS, ?_, ?_, ?_, ?_, ?_, ?_, ?_, ?_, ?_, ?_, ?_, ?_, ?_, ?_, ?_, ?_, ?_, ?_, ?_⟩
  · intro k
    rw [hS, hcomp, PositionUnit.sample, Tri.get_ofFn]
    exact leadCompensation_eq (speedOf s) (s.params.bay.get k).latency s.pos.windowLen
  · rw [hS]; exact hstall
  iterate 8 rw [hpos]; rfl
  · intro hrun
    rw [hS, State.finish_node]
    refine ⟨fun h => ?_, fun h => takeSample_node_of_not (.inr h)⟩
    rw [takeSample_node_of_stalls hrun h]; exact ⟨rfl, rfl⟩
  · intro hrun
    rw [State.finish_node]; exact takeSample_node_of_not (.inl hrun)
  · rw [State.finish_time, hrec.time, haltOnStall_frame]; rfl
  · rw [State.finish_eyes, hrec.eyes, haltOnStall_frame]; rfl
  · rw [State.finish_params, hrec.params, haltOnStall_frame]; rfl
  · rw [State.finish_routes, hrec.routes, haltOnStall_frame]; rfl
  · rw [State.finish_expected, takeSample_expected]
  · rw [hpos, State.finish_node, State.finish_exitHold]; rfl
  · intro x y z
    have hx : x = sampled s := by
      simp only [x, sampled, hS, hcomp, hstall, ← stallAfter_fst]; rfl
    have hy : y = haltOnStall s := by
      simp only [y, hx, hS]
      exact if_congr (stalled_iff s).symm rfl rfl
    have hz : z = retargeted (haltOnStall s) := by
      have hc : (haltOnStall s).pos = s.pos.sample s.params := by rw [haltOnStall_frame]; rfl
      simp only [z, hy, retargeted, hcomp, hc]
    rw [hz, takeSample_eq, divertTests_eq_foldl zoneBlind_testArmed]
    simp only [armedAt_eq]

end Sys2Proof.Belt
end

section
/-! The edges of the ten eyes: which is taken, and what its owner leaves alone (R10 to R12, R54). -/

namespace Sys2Proof.Belt

open Sys2Proof.Machine Sys2Proof.Claims

/-! ### Taking an edge -/

theorem put_put (e : EyeUnit) (i : EyeId) (x y : Eye) : (e.put i x).put i y = e.put i y := by
  rcases i with _ | j | j | j
  · rfl
  all_goals cases j <;> rfl

theorem acceptNamed_of_waiting {i : EyeId} {b : Bool} {s : State} (h : (s.eyes.get i).waiting ≠ []) :
    s.acceptNamed i b = s := by
  simp [State.acceptNamed, h]

theorem acceptNamed_of_same {i : EyeId} {b : Bool} {s : State} (h : (s.eyes.get i).blocked = b) :
    s.acceptNamed i b = s := by
  simp [State.acceptNamed, h]

theorem acceptNamed_of_change {i : EyeId} {b : Bool} {s : State} (hw : (s.eyes.get i).waiting = [])
    (hb : (s.eyes.get i).blocked ≠ b) :
    s.acceptNamed i b = { s with
      eyes := s.eyes.put i (changedEye b [edgeEvent i b s] s)
      jamAt := if i = .entry then jamOf b s else s.jamAt } := by
  simp [State.acceptNamed, hw, hb, acceptEdge_eq_changedEye]

/-- The event a statement says is taken is the one the model hands to the owner. -/
theorem takeEdge_of_edgeTaken {i : EyeId} {b : Bool} {s : State} {e : Edge} {u : State} (h : edgeTaken i b s e u) :
    (s.acceptNamed i b).takeEdge i b = some (e, u) := by
  rw [State.takeEdge_eq_some]
  rcases h with ⟨rest, hw, hb, hu⟩ | ⟨hw, hb, he, hu⟩
  · rw [acceptNamed_of_waiting (by simp [hw])]
    exact ⟨rest, hw, hb, hu⟩
  · rw [acceptNamed_of_change hw hb]
    subst he hu
    exact ⟨[], by simp [changedEye], rfl, by simp [withEdge, put_put, changedEye]⟩

theorem edge_of_edgeTaken {i : EyeId} {b : Bool} {s : State} {e : Edge} {u : State} (h : edgeTaken i b s e u)
    (owner : Edge → State → State) : s.edge i b owner = (owner e u).finish :=
  State.edge_of_taken owner (takeEdge_of_edgeTaken h)

theorem edge_of_noEdge {i : EyeId} {b : Bool} {s : State} (h : noEdge i b s) (owner : Edge → State → State) :
    s.edge i b owner = s := by
  rcases h with ⟨e, rest, hw, hb⟩ | ⟨hw, hb⟩
  · simp [State.edge, State.takeEdge, acceptNamed_of_waiting (i := i) (b := b) (s := s) (by simp [hw]), hw, hb]
  · simp [State.edge, State.takeEdge, acceptNamed_of_same hb, hw]

theorem exists_edgeTaken {i : EyeId} {b : Bool} {s : State} (h : ¬ noEdge i b s) : ∃ e u, edgeTaken i b s e u := by
  rw [noEdge, not_or] at h
  obtain ⟨hother, hsame⟩ := h
  cases hw : (s.eyes.get i).waiting with
  | nil => exact ⟨_, _, .inr ⟨hw, fun hb => hsame ⟨hw, hb⟩, rfl, rfl⟩⟩
  | cons e rest => exact ⟨e, _, .inl ⟨rest, hw, not_not.mp fun hb => hother ⟨e, rest, hw, hb⟩, rfl⟩⟩

/-- Taking an edge changes the eye and, where it is the acceptance too, the jam position. -/
theorem edgeTaken_frame {i : EyeId} {b : Bool} {s : State} {e : Edge} {u : State} (h : edgeTaken i b s e u) :
    u = { s with eyes := u.eyes, jamAt := u.jamAt } := by
  rcases h with ⟨rest, _, _, hu⟩ | ⟨_, _, _, hu⟩ <;> subst hu <;> rfl

theorem edgeTaken_eyes_of_ne {i j : EyeId} {b : Bool} {s : State} {e : Edge} {u : State} (h : edgeTaken i b s e u)
    (hj : j ≠ i) : u.eyes.get j = s.eyes.get j := by
  rcases h with ⟨rest, _, _, hu⟩ | ⟨_, _, _, hu⟩ <;> subst hu <;> exact (EyeUnit.get_put ..).trans (if_neg hj)

theorem edgeTaken_of_waiting {i : EyeId} {b : Bool} {s : State} {e : Edge} {u : State} (h : edgeTaken i b s e u)
    {w : List Edge} (hw : (s.eyes.get i).waiting = e :: w) :
    u.eyes.get i = { s.eyes.get i with waiting := w } ∧ u.jamAt = s.jamAt := by
  rcases h with ⟨rest, hr, _, hu⟩ | ⟨hn, _⟩
  · obtain rfl : rest = w := (List.cons.inj (hr.symm.trans hw)).2
    subst hu
    exact ⟨EyeUnit.get_put_self .., rfl⟩
  · rw [hn] at hw; cases hw

theorem edgeTaken_of_none {i : EyeId} {b : Bool} {s : State} {e : Edge} {u : State} (h : edgeTaken i b s e u)
    (hw : (s.eyes.get i).waiting = []) :
    u.eyes.get i = changedEye b [] s ∧ u.jamAt = if i = .entry then jamOf b s else s.jamAt := by
  rcases h with ⟨rest, hr, _⟩ | ⟨_, _, _, hu⟩
  · rw [hw] at hr; cases hr
  · subst hu
    exact ⟨EyeUnit.get_put_self .., rfl⟩

/-! ### The owners -/

/-- The owner of an eye's edges of a direction (R11). -/
def ownerOf : EyeId → Bool → Edge → State → State
  | .entry, true => State.entryLeading
  | .entry, false => State.entryTrailing
  | .gate i, true => fun _ => State.gateBlocked i
  | .gate i, false => State.gateCleared i
  | .confirm k, true => fun _ => State.confirmBlocked k
  | .confirm k, false => fun _ => State.confirmCleared k
  | .front _, true => fun _ => id
  | .front k, false => fun _ => State.frontCleared k

theorem exec_edgeOf (i : EyeId) (b : Bool) (s : State) :
    exec (edgeOf i b) s = .next (s.edge i b (ownerOf i b)) := by
  cases i <;> cases b <;> rfl

theorem exec_of_edgeTaken {i : EyeId} {b : Bool} {s : State} {e : Edge} {u : State} (h : edgeTaken i b s e u) :
    exec (edgeOf i b) s = .next (ownerOf i b e u).finish := by
  rw [exec_edgeOf, edge_of_edgeTaken h]

open State (RecordsOnly)

theorem recordsOnly_arrive (stamp : Pos) (tag : Option (BitVec 32)) (s : State) :
    RecordsOnly s (s.arrive stamp tag) := by
  unfold State.arrive
  split
  · next rest _ _ =>
    have hexpected : RecordsOnly s { s with expected := rest } := rfl
    exact (hexpected.trans (.reportMissing ..)).trans (.appendEntering ..)
  · exact ((RecordsOnly.report ..).trans (.offer ..)).trans (.appendEntering ..)

theorem recordsOnly_entryLeading (e : Edge) (s : State) : RecordsOnly s (s.entryLeading e) := by
  unfold State.entryLeading
  refine .ite (.refl s) (.ite (.refl s) (.ite ?_ ?_))
  · exact (RecordsOnly.takeTag s).trans (.report ..)
  · exact ((((RecordsOnly.takeTag s).trans (recordsOnly_arrive ..)).trans (.dropOverdue _)).trans (.exitTests _)).trans
      (.reTest _)

theorem recordsOnly_closeEntering (stamp : Pos) (init : List Tote) (t : Tote) (d : Decision) (s : State) :
    RecordsOnly s (s.closeEntering stamp init t d) := by
  have hmismatch : ∀ m : Option Nat, RecordsOnly s
      (match m with | some n => s.report .lengthMismatch n t.ident.tag t.ident.order | none => s) := fun m => by
    cases m
    · exact .refl s
    · exact .report ..
  unfold State.closeEntering
  cases d with
  | pass => exact hmismatch _
  | land k => exact (hmismatch _).trans (.testArmed ..)

theorem recordsOnly_entryTrailing (e : Edge) (s : State) : RecordsOnly s (s.entryTrailing e) := by
  unfold State.entryTrailing
  refine .ite (.refl s) ?_
  split
  · split
    · exact ((recordsOnly_closeEntering ..).trans (.claims _)).trans (.reTest _)
    · exact .refl s
  · exact .refl s

theorem recordsOnly_gateBlocked (i : Ix) (s : State) : RecordsOnly s (s.gateBlocked i) := by
  have hat : RecordsOnly s (s.toteAtGate i) := by
    unfold State.toteAtGate
    split
    · exact .modSpur ..
    · exact ((RecordsOnly.modSpur ..).trans (.report ..)).trans (.offer ..)
  exact .ite (hat.trans (.reTest _)) (.refl s)

theorem recordsOnly_loseFront (i : Ix) (d : Nat) (s : State) : RecordsOnly s (s.loseFront i d) := by
  unfold State.loseFront
  split
  · exact (RecordsOnly.modSpur ..).trans (.report ..)
  · exact .modSpur ..

theorem recordsOnly_discardGranted (i : Ix) (g : Grant) (r : SpurRec) (why : ReportKind) (d : Nat) (s : State) :
    RecordsOnly s (s.discardGranted i g r why d) :=
  ((RecordsOnly.releaseDecision ..).trans (.modSpur ..)).trans (.report ..)

theorem recordsOnly_insertGranted (i : Ix) (g : Grant) (r : SpurRec) (s : State) :
    RecordsOnly s (s.insertGranted i g r) := by
  have htest : RecordsOnly s (((s.modSpur i Spur.released).offer .mergeDone (some r.ident.cls) (some i.toNat)).testArmed
      (((s.modSpur i Spur.released).offer .mergeDone (some r.ident.cls) (some i.toNat)).mergedTote r g)).2 :=
    ((RecordsOnly.modSpur ..).trans (.offer ..)).trans (.testArmed ..)
  unfold State.insertGranted
  exact htest.trans (RecordsOnly.exitTests _)

theorem recordsOnly_gateCleared (i : Ix) (e : Edge) (s : State) : RecordsOnly s (s.gateCleared i e) := by
  unfold State.gateCleared
  refine .ite ?_ (.refl s)
  split
  · exact recordsOnly_loseFront ..
  · refine RecordsOnly.trans ?_ (.reTest _)
    unfold State.gateReleased
    split
    · exact .refl s
    · exact .ite (recordsOnly_discardGranted ..) (.ite (recordsOnly_discardGranted ..) (recordsOnly_insertGranted ..))
  · exact .refl s

theorem recordsOnly_landTote (k : Ix) (t : Tote) (rest : List Tote) (s : State) :
    RecordsOnly s (s.landTote k t rest) := by
  have hgone : RecordsOnly s (({ s with zone := rest } : State).release k) := rfl
  unfold State.landTote
  refine .ite ?_ (.trans ?_ (.assemblyLanding ..)) <;>
    exact (((hgone.trans (.ite (.refl _) (.modBay ..))).trans (.ite (.report ..) (.refl _))).trans (.offer ..))

theorem recordsOnly_confirmBlocked (k : Ix) (s : State) : RecordsOnly s (s.confirmBlocked k) := by
  unfold State.confirmBlocked
  split
  · exact (((RecordsOnly.modBay ..).trans (recordsOnly_landTote ..)).trans (.exitTests _)).trans (.reTest _)
  · have hjam : RecordsOnly s (s.startChuteJam k) := .modBay ..
    refine hjam.trans ?_
    exact .ite ((RecordsOnly.modBay ..).trans (.report ..)) (.report ..)

theorem recordsOnly_confirmCleared (k : Ix) (s : State) : RecordsOnly s (s.confirmCleared k) :=
  .ite ((RecordsOnly.modBay ..).trans (.report ..)) (.modBay ..)

theorem recordsOnly_frontCleared (k : Ix) (s : State) : RecordsOnly s (s.frontCleared k) := by
  unfold State.frontCleared
  split
  · exact .offer ..
  · exact .takeFront ..

/-- An owner acts on records, lists, queues, reports and counters alone. -/
theorem recordsOnly_ownerOf (i : EyeId) (b : Bool) (e : Edge) (s : State) : RecordsOnly s (ownerOf i b e s) := by
  cases i <;> cases b
  · exact recordsOnly_entryTrailing e s
  · exact recordsOnly_entryLeading e s
  · exact recordsOnly_gateCleared _ e s
  · exact recordsOnly_gateBlocked _ s
  · exact recordsOnly_confirmCleared _ s
  · exact recordsOnly_confirmBlocked _ s
  · exact recordsOnly_frontCleared _ s
  · exact .refl s

/-- Settles O8: the acceptance and the taking fix the eye, and the owner's act leaves the Eye Unit alone. -/
theorem eyeEdgesAreAcceptedOnce : Obligations.EyeEdgesAreAcceptedOnce := by
  unfold Obligations.EyeEdgesAreAcceptedOnce
  intro i b s
  refine ⟨fun h => ?_, exists_edgeTaken, fun e u h => ⟨_, exec_of_edgeTaken h, ?_⟩⟩
  · rw [exec_edgeOf, edge_of_noEdge h]
  · have hact := recordsOnly_ownerOf i b e u
    have hu := edgeTaken_frame h
    simp only [State.finish_eyes, State.finish_jamAt, State.finish_pos, State.finish_time, State.finish_params,
      State.finish_routes, State.finish_node, State.finish_inputs, State.finish_pending, hact.eyes, hact.jamAt, hact.pos,
      hact.time, hact.params, hact.routes, hact.node, hact.inputs, hact.pending]
    refine ⟨fun w hw => edgeTaken_of_waiting h hw, edgeTaken_of_none h, fun j hj => edgeTaken_eyes_of_ne h hj, ?_⟩
    rw [hu]
    exact ⟨rfl, rfl, rfl, rfl, rfl, rfl, rfl⟩

end Sys2Proof.Belt
end

section
/-! Resets, the millisecond tick and timer expiries (R18, R19, R132, R161, R181). -/

namespace Sys2Proof.Belt

open Sys2Proof.Machine Sys2Proof.Claims

/-! ### Resets -/

theorem resetOutstanding_iff (p : Port) (s : State) : s.resetOutstanding p = true ↔ resetWaits p s := by
  simp [State.resetOutstanding, resetWaits, Option.any_eq_true, and_comm]

theorem resetPart_outputs (s : State) : s.resetPart.outputs =
    ⟨false, .const false, .const false, .const false, .const false, .const 0, .heldHigh, .heldHigh⟩ := by
  rfl

/-- Settles O3: the three commands answer the same reset of the whole part. -/
theorem resetsLeaveTheGivenValues : Obligations.ResetsLeaveTheGivenValues := by
  unfold Obligations.ResetsLeaveTheGivenValues
  intro s
  refine ⟨s.resetPart, rfl, rfl, fun p h => ?_, fun p h => ?_, fun p f htx hf => ?_,
    ⟨rfl, rfl, rfl, rfl, rfl, rfl, rfl, rfl, rfl⟩, ?_, rfl, rfl, rfl, rfl, rfl, rfl, rfl, rfl, ?_, rfl, ?_,
    ⟨rfl, rfl, rfl⟩, rfl, ⟨rfl, rfl, rfl, rfl, rfl⟩, ?_, rfl, rfl, rfl, rfl, rfl, resetPart_outputs s, rfl, rfl⟩
  · exact congrArg Host.Outcome.next (if_pos ((resetOutstanding_iff p s).mpr h))
  · exact congrArg Host.Outcome.next (if_neg (mt (resetOutstanding_iff p s).mp h))
  · simp [exec, execFrameSent, htx, hf]
  · intro i
    rcases i with _ | i | i | i
    · rfl
    all_goals cases i <;> rfl
  · intro i; cases i <;> rfl
  · intro k; cases k <;> rfl
  · intro p; cases p <;> rfl

/-! ### The millisecond tick -/

theorem classBit_eq (c : Cls) : classBit c = c.bit := by cases c <;> rfl

theorem lampTick_eq (s : State) : s.lampTick =
    if 5 ≤ s.lamps.phase + 1 then ⟨0, s.bays.map Bay.lamp⟩ else ⟨s.lamps.phase + 1, s.lamps.shown⟩ := by
  rw [State.lampTick]
  exact (ite_not ..).symm.trans (if_congr Nat.not_lt rfl rfl)

theorem lampOn_iff (s : State) (k : Ix) : s.lampOn k = true ↔
    1 ≤ s.lamps.shown.get k ∧ s.lamps.shown.get k ≤ 8 ∧
      250 * (4 * s.lamps.phase + s.time.quarter) < 625 * (9 - s.lamps.shown.get k) := by
  rw [State.lampOn, decide_eq_true_iff, State.lampSample, Config.samplesPerTick, lampEighths]
  split <;> omega

theorem windowTick_eq (s : State) : s.windowTick = { s.pos with
    windowTimer := (match s.pos.windowTimer with | none => some s.params.speedWin | some n => some (n - 1))
    windowLen := if s.pos.windowTimer = none then s.params.speedWin else s.pos.windowLen
    windowDriven := if s.pos.windowTimer = none then decide (s.node.state = .run) && !s.credit.exitHold
      else s.pos.windowDriven } := by
  unfold State.windowTick
  cases s.pos.windowTimer <;> rfl

theorem sum_filter {p : Ix → Bool} {f : Ix → Nat} (l : List Ix) :
    (l.map fun k => if p k then f k else 0).sum = ((l.filter p).map f).sum := by
  induction l with
  | nil => rfl
  | cons k l ih => cases hk : p k <;> simp [hk, ih]

/-- Settles O9: each block's part of a tick, in the words of its rule. -/
theorem millisecondTickCountsTimersAndWaits : Obligations.MillisecondTickCountsTimersAndWaits := by
  unfold Obligations.MillisecondTickCountsTimersAndWaits
  intro s
  refine ⟨s.tick, s.tick.finish, rfl, rfl, rfl, lampTick_eq s, fun k => ⟨?_, ?_⟩, rfl, fun k => ?_, fun i => ?_, ?_,
    windowTick_eq s, ?_⟩
  · exact Tri.get_map ..
  · rw [← lampOn_iff, State.outputs]; simp
  · exact Tri.get_map ..
  · exact Tri.get_map ..
  · have hrefresh : refreshTick s.credit.refresh =
        match s.credit.refresh with | none => some 50 | some n => some (n - 1) := by
      cases s.credit.refresh <;> rfl
    exact congrArg (fun r => { s.credit with refresh := r }) hrefresh
  · refine List.map_congr_left fun c _ => ?_
    rw [Counter.add, State.tickAmount, Config.counterMax]
    simp only [classBit_eq, ← sum_filter]
    cases c.event <;> rfl

/-! ### Expiries -/

theorem granting_eq (st : SpurState) : granting st = st.isGranted := by cases st <;> rfl

theorem modify_congr {α : Type} {t : Tri α} {k : Ix} {f g : α → α} (h : f (t.get k) = g (t.get k)) :
    t.modify k f = t.modify k g := by
  rw [Tri.modify, h, ← Tri.modify]

/-- Two changes of a bay that agree on it as it stands. -/
theorem modBay_congr {s : State} {k : Ix} {f g : Bay → Bay} (h : f (s.bays.get k) = g (s.bays.get k)) :
    s.modBay k f = s.modBay k g := by
  rw [State.modBay, modify_congr h, ← State.modBay]

theorem chuteJammed_eq (k : Ix) (s : State) : s.chuteJammed k =
    if (s.bays.get k).blocked = true then s.modBay k fun b => { b with chuteJam := none }
    else (s.modBay k fun b => { b with chuteJam := none, blocked := true }).report .bayBlocked k.toNat 0 0 := by
  unfold State.chuteJammed
  split
  · next h => exact modBay_congr (by rw [h])
  · rfl

theorem modSpur_report (i : Ix) (f : Spur → Spur) (k : ReportKind) (d : Nat) (tag : BitVec 32) (order : BitVec 24)
    (s : State) : (s.report k d tag order).modSpur i f = (s.modSpur i f).report k d tag order := by
  unfold State.report State.modSpur
  simp only []
  split <;> rfl

theorem modSpur_modSpur (i : Ix) (f g : Spur → Spur) (s : State) :
    (s.modSpur i f).modSpur i g = s.modSpur i (g ∘ f) := by
  unfold State.modSpur
  cases i <;> rfl

/-- What an expired release timer does to a GRANTED spur (R113). -/
theorem releaseExpired_eq {s : State} {i : Ix} {g : Grant} {r : SpurRec} {rest : List SpurRec}
    (hst : (s.spurs.get i).st = .granted g) (hlist : (s.spurs.get i).list = r :: rest) :
    (s.stickSpur i i.toNat).modSpur i (fun y => { y with releaseTimer := none }) =
      ((s.releaseDecision g.decision).modSpur i fun x =>
        { x with st := .blocked, gateTimer := none, releaseTimer := none }).report .spurStuck i.toNat r.ident.tag
          r.ident.order := by
  unfold State.stickSpur
  simp only [hst, hlist, modSpur_report, modSpur_modSpur]
  rfl

/-- Settles O10: an expiry acts where the timer stands at 0, each owner in the words of its rule. -/
theorem timerExpiriesActAsTheirOwnersSay : Obligations.TimerExpiriesActAsTheirOwnersSay := by
  unfold Obligations.TimerExpiriesActAsTheirOwnersSay
  intro s
  refine ⟨fun k => ⟨Tri.get_ofFn .., Tri.get_ofFn ..⟩, fun i => ?_, fun k h => State.onExpiry_of_due h ..,
    fun k h => State.onExpiry_of_due h .., fun i h => State.onExpiry_of_due h .., fun k h => ?_, fun k h => ?_,
    fun i g r rest hst hlist h => ?_, rfl, fun k h => State.onExpiry_of_not_due h ..,
    fun k h => State.onExpiry_of_not_due h .., fun k h => State.onExpiry_of_not_due h ..,
    fun k h => State.onExpiry_of_not_due h .., fun k h => State.onExpiry_of_not_due h ..,
    fun i h => ?_⟩
  · rw [granting_eq]; exact Tri.get_ofFn ..
  · refine (State.onExpiry_of_due h ..).trans ?_
    simp only [Nat.mul_comm 1000]; rfl
  · rw [← chuteJammed_eq]; exact State.onExpiry_of_due h ..
  · rw [exec, execReleaseTimerExpiry, State.onExpiry_of_due h, releaseExpired_eq hst hlist]
    cases g.decision <;> rfl
  · rw [exec, execReleaseTimerExpiry, State.onExpiry_of_not_due h]

end Sys2Proof.Belt
end

section
/-! Reads at the Tag Port (R14, R15). -/

namespace Sys2Proof.Belt

open Sys2Proof.Machine Sys2Proof.Claims

theorem toNat_append_byte {n : Nat} (x : BitVec n) (b : Byte) : (x ++ b).toNat = x.toNat * 256 + b.toNat := by
  rw [BitVec.toNat_append, ← Nat.shiftLeft_add_eq_or_of_lt b.isLt, Nat.shiftLeft_eq]

theorem beNat_four (a b c d : Byte) : beNat [a, b, c, d] = (a ++ b ++ c ++ d : BitVec 32).toNat := by
  rw [toNat_append_byte, toNat_append_byte, toNat_append_byte]
  simp [beNat]

/-- A good character of a read. -/
def plain (x : Byte) : TagChar := ⟨x, false, false⟩

theorem putTagRx_putTagRx (x y : TagRx) (s : State) : (s.putTagRx x).putTagRx y = s.putTagRx y := rfl

theorem putTagRx_self {x : TagRx} {s : State} (h : s.tagPort.rx = x) : s.putTagRx x = s := by
  rw [State.putTagRx, ← h]

theorem tagChar_start {s : State} (h : s.tagPort.rx = .awaitStart) (gap : Bool) :
    s.tagChar ⟨0x02, false, gap⟩ = s.putTagRx (.inRead []) := by
  simp [State.tagChar, h, State.tagCharAwait]

/-- Up to four good characters are collected. -/
theorem foldl_tagChar_collect (got front : List Byte) (s : State) (h : front.length + got.length ≤ 4) :
    (got.map plain).foldl State.tagChar (s.putTagRx (.inRead front)) = s.putTagRx (.inRead (front ++ got)) := by
  induction got generalizing front with
  | nil => simp
  | cons x got ih =>
    rw [List.length_cons] at h
    have hx : (s.putTagRx (.inRead front)).tagChar (plain x) = s.putTagRx (.inRead (front ++ [x])) := by
      have hlt : front.length < 4 := by omega
      simp [State.tagChar, State.putTagRx, plain, hlt]
    rw [List.map_cons, List.foldl_cons, hx, ih _ (by simp; omega), List.append_assoc, List.singleton_append]

/-- A read up to its last character. -/
theorem foldl_tagChar_read {s : State} (h : s.tagPort.rx = .awaitStart) {got : List Byte} (hgot : got.length ≤ 4)
    (gap : Bool) (last : TagChar) :
    (⟨0x02, false, gap⟩ :: got.map plain ++ [last]).foldl State.tagChar s =
      (s.putTagRx (.inRead got)).tagChar last := by
  rw [List.cons_append, List.foldl_cons, List.foldl_append, tagChar_start h,
    foldl_tagChar_collect got [] s (by simpa using hgot)]
  rfl

theorem tagChar_framing {s : State} (h : s.tagPort.rx = .awaitStart) (got : List Byte) (x : Byte) :
    (s.putTagRx (.inRead got)).tagChar ⟨x, true, false⟩ = s.badRead := by
  change State.badRead (s.putTagRx .awaitStart) = s.badRead
  rw [putTagRx_self h]

theorem tagChar_gap {s : State} (h : s.tagPort.rx = .awaitStart) (got : List Byte) (x : Byte) (framing : Bool) :
    (s.putTagRx (.inRead got)).tagChar ⟨x, framing, true⟩ = s.badRead.tagCharAwait ⟨x, framing, true⟩ := by
  change State.tagCharAwait _ (State.badRead (s.putTagRx .awaitStart)) = _
  rw [putTagRx_self h]

theorem tagChar_last {s : State} (h : s.tagPort.rx = .awaitStart) (a b c d k : Byte) :
    (s.putTagRx (.inRead [a, b, c, d])).tagChar (plain k) = s.judgeRead [a, b, c, d, k] := by
  change State.judgeRead [a, b, c, d, k] (s.putTagRx .awaitStart) = _
  rw [putTagRx_self h]

theorem judgeRead_eq (a b c d k : Byte) (s : State) : s.judgeRead [a, b, c, d, k] =
    if k = a ^^^ b ^^^ c ^^^ d ∧ (a ++ b ++ c ++ d : BitVec 32) ≠ 0 then s.validRead (a ++ b ++ c ++ d) else s.badRead := by
  have hzero : beNat [a, b, c, d] ≠ 0 ↔ (a ++ b ++ c ++ d : BitVec 32) ≠ 0 := by
    rw [beNat_four, Ne, Ne, BitVec.toNat_eq]; rfl
  have htag : BitVec.ofNat 32 (beNat [a, b, c, d]) = (a ++ b ++ c ++ d : BitVec 32) := by
    rw [beNat_four, BitVec.ofNat_toNat, BitVec.setWidth_eq]
  simp only [State.judgeRead, htag]
  exact if_congr (and_congr_right fun _ => hzero) rfl rfl

theorem validRead_enabled {s : State} (hrx : s.tagPort.rx = .awaitStart) (h : s.params.tagEnable = 1)
    (tag : BitVec 32) : s.validRead tag = { s with
      tagPort := ⟨.awaitStart, some ⟨tag, s.pos.P⟩⟩
      counters := if s.tagPort.pending.isSome = true then counted .tagOverrun none none s else s.counters } := by
  rw [State.validRead, if_pos h, ← hrx]
  cases s.tagPort.pending <;> rfl

/-- Settles O11: the characters before the last are collected, and the last one ends the read. -/
theorem tagReadsBecomeThePendingTag : Obligations.TagReadsBecomeThePendingTag := by
  unfold Obligations.TagReadsBecomeThePendingTag
  intro s a b c d k g0 hrx chars tag bad
  have hread : chars.foldl State.tagChar s = s.judgeRead [a, b, c, d, k] :=
    (foldl_tagChar_read hrx (got := [a, b, c, d]) le_rfl g0 (plain k)).trans (tagChar_last hrx a b c d k)
  have hvalid : exec (.tagRead chars) s = .next (s.judgeRead [a, b, c, d, k]).finish :=
    congrArg (fun x : State => Host.Outcome.next x.finish) hread
  have hinvalid : exec (.badTagRead chars) s = .next (s.judgeRead [a, b, c, d, k]).finish :=
    congrArg (fun x : State => Host.Outcome.next x.finish) hread
  refine ⟨fun h hen => ?_, fun h hen => ?_, fun h => ?_, fun got hgot => ?_⟩
  · rw [hvalid, judgeRead_eq, if_pos h, validRead_enabled hrx hen]
  · rw [hvalid, judgeRead_eq, if_pos h, State.validRead, if_neg hen]
  · rw [hinvalid, judgeRead_eq, if_neg h]; rfl
  · intro cut
    have hcut : ∀ last, exec (cut last) s = .next ((s.putTagRx (.inRead got)).tagChar last).finish := fun last =>
      congrArg (fun x : State => Host.Outcome.next x.finish) (foldl_tagChar_read hrx hgot g0 last)
    refine ⟨fun x => ?_, fun x framing hx => ?_, ?_⟩
    · rw [hcut, tagChar_framing hrx]; rfl
    · have hawait : s.badRead.tagCharAwait ⟨x, framing, true⟩ = s.badRead :=
        if_neg (by simpa [imp_iff_not_or, or_comm] using hx)
      rw [hcut, tagChar_gap hrx, hawait]; rfl
    · rw [hcut, tagChar_gap hrx]; rfl

end Sys2Proof.Belt
end

section
/-! Claims and exit hold (R145 to R149). -/

namespace Sys2Proof.Belt

open Sys2Proof.Machine Sys2Proof.Claims

/-! ### The candidate -/

/-- Every record holds a claim. -/
def allClaimed (l : List Tote) : Prop := ∀ t ∈ l, t.claim.isSome = true

theorem allClaimed_nil : allClaimed [] := List.forall_mem_nil _

theorem candidateSplit_of_allClaimed {l : List Tote} (h : allClaimed l) : candidateSplit l = none := by
  rw [candidateSplit, List.dropWhile_eq_nil_iff.mpr h]

theorem candidateSplit_append {a b : List Tote} {t : Tote} (ha : allClaimed a) (ht : t.claim = none) :
    candidateSplit (a ++ t :: b) = some (a, t, b) := by
  rw [candidateSplit, List.dropWhile_append_of_pos ha, List.takeWhile_append_of_pos ha]
  simp [ht]

theorem candidateSplit_eq_some {l a b : List Tote} {t : Tote} (h : candidateSplit l = some (a, t, b)) :
    l = a ++ t :: b ∧ allClaimed a ∧ t.claim = none := by
  unfold candidateSplit at h
  split at h
  · cases h
  · next x rest hdrop =>
    cases h
    refine ⟨?_, fun r hr => List.mem_takeWhile_imp (p := fun t : Tote => t.claim.isSome) hr, ?_⟩
    · rw [← hdrop, List.takeWhile_append_dropWhile]
    · have hx := List.head_dropWhile_not (fun t : Tote => t.claim.isSome) (l := l) (by simp [hdrop])
      simpa [hdrop] using hx

theorem candidateSplit_cons_of_claimed {t : Tote} {l : List Tote} (ht : t.claim.isSome = true) :
    candidateSplit (t :: l) = (candidateSplit l).map fun x => (t :: x.1, x.2) := by
  unfold candidateSplit
  rw [List.dropWhile_cons_of_pos (p := fun t : Tote => t.claim.isSome) ht,
    List.takeWhile_cons_of_pos (p := fun t : Tote => t.claim.isSome) ht]
  cases l.dropWhile fun t => t.claim.isSome <;> rfl

/-- A record without a claim is RIDING without one, or not RIDING. -/
theorem track_of_no_claim {t : Tote} (h : t.claim = none) :
    (∃ len, t.track = .riding len none) ∨ t.track.code ≠ 1 := by
  unfold Tote.claim at h
  cases ht : t.track with
  | riding len c => rw [ht] at h; exact .inl ⟨len, congrArg (Track.riding len) h⟩
  | _ => exact .inr (by simp [Track.code])

theorem track_of_claim {t : Tote} (h : t.claim.isSome = true) : ∃ len q, t.track = .riding len (some q) := by
  unfold Tote.claim at h
  cases ht : t.track with
  | riding len c =>
    rw [ht] at h
    obtain ⟨q, rfl⟩ := Option.isSome_iff_exists.mp h
    exact ⟨len, q, rfl⟩
  | _ => rw [ht] at h; cases h

/-! ### Single claims -/

/-- The state with its exit hold set to b. -/
def withHold (b : Bool) (s : State) : State := { s with credit := { s.credit with exitHold := b } }

theorem claimOnce_eq_none_iff {s : State} : claimOnce s = none ↔
    ∀ a t rest, candidateSplit s.zone = some (a, t, rest) → ¬ (pastHold s t = true ∧ 1 ≤ viewOf s.credit) := by
  unfold claimOnce
  cases candidateSplit s.zone with
  | none => simp
  | some x =>
    obtain ⟨a, t, rest⟩ := x
    simp only [ite_eq_right_iff, reduceCtorEq, imp_false, Option.some.injEq, Prod.mk.injEq]
    exact ⟨by rintro h _ _ _ ⟨rfl, rfl, rfl⟩; exact h, fun h => h a t rest ⟨rfl, rfl, rfl⟩⟩

theorem claimOnce_withHold_eq_none {s : State} {b : Bool} (h : claimOnce s = none) : claimOnce (withHold b s) = none :=
  claimOnce_eq_none_iff.mpr (claimOnce_eq_none_iff (s := s).mp h)

/-- With no claim left to make, exit hold is set as the candidate stands. -/
theorem claimed_of_none {s : State} (h : claimOnce s = none) (n : Nat) :
    claimed n s = withHold (heldAtExit s) s := by
  have hrep : claimRepeatedly n s = s := by cases n <;> simp [claimRepeatedly, h]
  rw [claimed, hrep, withHold]

theorem claimed_succ {s x : State} (h : claimOnce s = some x) (n : Nat) : claimed (n + 1) s = claimed n x := by
  simp only [claimed, claimRepeatedly, h]

/-- A claim of the Credit Unit in the words of the statements. -/
theorem claimAt_credit (a : List Tote) (t : Tote) (rest : List Tote) (s : State) :
    (claimAt a t rest s).credit = s.credit.claim := rfl

/-! ### The walk -/

/-- What the walk over the records behind `front` leaves, from an exit hold b on. -/
def walked (b : Bool) (front l : List Tote) (s : State) : State :=
  let w := claimWalk s.pos.P s.params.holdPoint l { s.credit with exitHold := b }
  { s with zone := front ++ w.1, credit := w.2 }

theorem walked_cons_of_claimed {t : Tote} (ht : t.claim.isSome = true) (b : Bool) (front l : List Tote) (s : State) :
    walked b front (t :: l) s = walked b (front ++ [t]) l s := by
  obtain ⟨len, q, htrack⟩ := track_of_claim ht
  simp [walked, claimWalk, htrack]

theorem walked_append_of_allClaimed {a : List Tote} (ha : allClaimed a) (b : Bool) (front l : List Tote) (s : State) :
    walked b front (a ++ l) s = walked b (front ++ a) l s := by
  induction a generalizing front with
  | nil => simp
  | cons t a ih =>
    obtain ⟨ht, ha⟩ := List.forall_mem_cons.mp ha
    rw [List.cons_append, walked_cons_of_claimed ht, ih ha, List.append_assoc, List.singleton_append]

theorem walked_claim {t : Tote} {len : Nat} (ht : t.track = .riding len none) {b : Bool} {s : State}
    (hpast : b = true ∨ pastHold s t = true) (hview : 1 ≤ viewOf s.credit) (front l : List Tote) :
    walked b front (t :: l) s = walked false (front ++ [{ t with track := .riding len (some s.credit.s) }]) l
      (claimAt front t l s) := by
  have hreached : (b || reached s.pos.P (posAdd t.lead s.params.holdPoint)) = true := by
    rw [Bool.or_eq_true]
    exact hpast.imp_right fun h => ((Bool.and_eq_true ..).mp h).2
  have hv : 1 ≤ ({ s.credit with exitHold := b } : CreditUnit).view := hview
  have hclaim : ∀ c : CreditUnit, ({ ({ c with exitHold := b } : CreditUnit).claim with exitHold := false } : CreditUnit) =
      { c.claim with exitHold := false } := fun c => by
    unfold CreditUnit.claim CreditUnit.clampView CreditUnit.view
    split <;> rfl
  simp only [walked, claimWalk, ht, hreached, hv, if_true, claimAt_credit, hclaim]
  simp [claimAt]

theorem walked_wait {t : Tote} {len : Nat} (ht : t.track = .riding len none) {b : Bool} {s : State}
    (hpast : b = true ∨ pastHold s t = true) (hview : viewOf s.credit = 0) {front l : List Tote}
    (hz : s.zone = front ++ t :: l) : walked b front (t :: l) s = withHold true s := by
  have hreached : (b || reached s.pos.P (posAdd t.lead s.params.holdPoint)) = true := by
    rw [Bool.or_eq_true]
    exact hpast.imp_right fun h => ((Bool.and_eq_true ..).mp h).2
  have hv : ¬ 1 ≤ ({ s.credit with exitHold := b } : CreditUnit).view := by
    change ¬ 1 ≤ viewOf s.credit
    rw [hview]; decide
  simp only [walked, claimWalk, ht, hreached, hv, if_true, if_false, ← hz]
  rfl

theorem pastHold_of_riding {t : Tote} {len : Nat} {c : Option Byte} (ht : t.track = .riding len c) (s : State) :
    pastHold s t = reached s.pos.P (posAdd t.lead s.params.holdPoint) := by
  simp [pastHold, ht, Track.code, posAdd]

theorem walked_short {t : Tote} {len : Nat} (ht : t.track = .riding len none) {s : State} (hpast : pastHold s t = false)
    {front l : List Tote} (hz : s.zone = front ++ t :: l) : walked false front (t :: l) s = withHold false s := by
  rw [pastHold_of_riding ht] at hpast
  simp only [walked, claimWalk, ht, hpast, Bool.or_self, Bool.false_eq_true, if_false, ← hz]
  rfl

theorem walked_other {t : Tote} (ht : t.track.code ≠ 1) {b : Bool} {s : State}
    {front l : List Tote} (hz : s.zone = front ++ t :: l) : walked b front (t :: l) s = withHold false s := by
  cases hk : t.track with
  | riding => rw [hk] at ht; exact absurd rfl ht
  | _ => simp only [walked, claimWalk, hk, ← hz]; rfl

/-- The walk is single claims, one after another, and leaves none to make. -/
theorem walked_eq_claimed (l front : List Tote) (b : Bool) (s : State) (hfront : allClaimed front)
    (hz : s.zone = front ++ l)
    (hheld : b = true → ∀ a t r, candidateSplit l = some (a, t, r) → t.track.code = 1 → pastHold s t = true)
    (n : Nat) (hn : l.length ≤ n) :
    walked b front l s = claimed n s ∧ claimOnce (walked b front l s) = none := by
  induction l generalizing front b s n with
  | nil =>
    have hsplit : candidateSplit s.zone = none := by
      rw [hz, List.append_nil]; exact candidateSplit_of_allClaimed hfront
    have honce : claimOnce s = none := by simp [claimOnce, hsplit]
    have hhold : heldAtExit s = false := by simp [heldAtExit, hsplit]
    have hwalk : walked b front [] s = withHold false s := by
      simp only [walked, claimWalk, ← hz]; rfl
    rw [hwalk, claimed_of_none honce, hhold]
    exact ⟨rfl, claimOnce_withHold_eq_none honce⟩
  | cons t l ih =>
    rw [List.length_cons] at hn
    cases hclaim : t.claim with
    | some q =>
      have hsome : t.claim.isSome = true := by rw [hclaim]; rfl
      rw [walked_cons_of_claimed hsome]
      refine ih (front ++ [t]) b s ?_ (by simp [hz]) (fun hb a x r hx => ?_) n (by omega)
      · exact List.forall_mem_append.mpr ⟨hfront, by simp [hsome]⟩
      · exact hheld hb (t :: a) x r (by rw [candidateSplit_cons_of_claimed hsome, hx]; rfl)
    | none =>
      have hsplit : candidateSplit s.zone = some (front, t, l) := by
        rw [hz]; exact candidateSplit_append hfront hclaim
      have hlocal : candidateSplit (t :: l) = some ([], t, l) := candidateSplit_append allClaimed_nil hclaim
      have hstop : ∀ hold : Bool, claimOnce s = none → heldAtExit s = hold → walked b front (t :: l) s = withHold hold s →
          walked b front (t :: l) s = claimed n s ∧ claimOnce (walked b front (t :: l) s) = none := by
        rintro _ honce rfl hwalk
        rw [hwalk, claimed_of_none honce]
        exact ⟨rfl, claimOnce_withHold_eq_none honce⟩
      rcases track_of_no_claim hclaim with ⟨len, htrack⟩ | hcode
      · cases hpast : pastHold s t with
        | false =>
          obtain rfl : b = false := by
            cases b with
            | false => rfl
            | true =>
              have := hheld rfl [] t l hlocal (by rw [htrack]; rfl)
              rw [hpast] at this; cases this
          exact hstop false (by simp [claimOnce, hsplit, hpast]) (by simp [heldAtExit, hsplit, hpast])
            (walked_short htrack hpast hz)
        | true =>
          by_cases hview : 1 ≤ viewOf s.credit
          · obtain ⟨m, rfl⟩ := Nat.exists_eq_add_one_of_ne_zero (n := n) (by omega)
            have honce : claimOnce s = some (claimAt front t l s) := by simp [claimOnce, hsplit, hpast, hview]
            rw [walked_claim htrack (.inr hpast) hview, claimed_succ honce]
            refine ih _ false _ ?_ ?_ (fun hb => nomatch hb) m (by omega)
            · exact List.forall_mem_append.mpr ⟨hfront, by simp [Tote.claim]⟩
            · simp [claimAt, htrack, Track.length]
          · have hzero : viewOf s.credit = 0 := by omega
            exact hstop true (by simp [claimOnce, hsplit, hview]) (by simp [heldAtExit, hsplit, hpast, hzero])
              (walked_wait htrack (.inr hpast) hzero hz)
      · have hpast : pastHold s t = false := by simp [pastHold, hcode]
        exact hstop false (by simp [claimOnce, hsplit, hpast]) (by simp [heldAtExit, hsplit, hpast])
          (walked_other hcode hz)

theorem claims_eq_walked {s : State} (h : s.params.terminal ≠ 1) : s.claims = walked s.credit.exitHold [] s.zone s :=
  if_neg h

/-- Settles O31: the walk over the zone list is single claims; a held candidate counts as past its hold point. -/
theorem claimsAreMadeInZoneOrder : Obligations.ClaimsAreMadeInZoneOrder := by
  unfold Obligations.ClaimsAreMadeInZoneOrder
  intro s
  refine ⟨fun h => if_pos h, fun h hheld => ?_, fun h hexit a t b hsplit hcode hpast => ?_⟩
  · rw [claims_eq_walked h]
    exact walked_eq_claimed s.zone [] _ s allClaimed_nil rfl hheld _ le_rfl
  · obtain ⟨hz, ha, hclaim⟩ := candidateSplit_eq_some hsplit
    obtain ⟨len, htrack⟩ := (track_of_no_claim hclaim).resolve_right (not_not.mpr hcode)
    rw [claims_eq_walked h, hexit, hz, walked_append_of_allClaimed ha, List.nil_append]
    refine ⟨fun hview => ?_, fun hview => ?_⟩
    · rw [walked_wait htrack (.inl rfl) hview hz, withHold, ← hexit]
    · rw [walked_claim htrack (.inl rfl) hview]
      refine walked_eq_claimed b _ false _ ?_ ?_ (fun hb => nomatch hb) _ le_rfl
      · exact List.forall_mem_append.mpr ⟨ha, by simp [Tote.claim]⟩
      · simp [claimAt, htrack, Track.length]

end Sys2Proof.Belt
end

section
/-! The entry eye's edges at the Tracker (R15, R17, R43 to R53). -/

namespace Sys2Proof.Belt

open Sys2Proof.Machine Sys2Proof.Claims

/-! ### What the taking of an edge leaves for the owner to read -/

section Taken

variable {i : EyeId} {b : Bool} {s : State} {e : Edge} {u : State} (h : edgeTaken i b s e u)

include h

theorem edgeTaken_zone : u.zone = s.zone := by rw [edgeTaken_frame h]
theorem edgeTaken_params : u.params = s.params := by rw [edgeTaken_frame h]
theorem edgeTaken_node : u.node = s.node := by rw [edgeTaken_frame h]
theorem edgeTaken_tagPort : u.tagPort = s.tagPort := by rw [edgeTaken_frame h]
theorem edgeTaken_expected : u.expected = s.expected := by rw [edgeTaken_frame h]
theorem edgeTaken_spurs : u.spurs = s.spurs := by rw [edgeTaken_frame h]
theorem edgeTaken_bays : u.bays = s.bays := by rw [edgeTaken_frame h]
theorem edgeTaken_credit : u.credit = s.credit := by rw [edgeTaken_frame h]
theorem edgeTaken_pos : u.pos = s.pos := by rw [edgeTaken_frame h]
theorem edgeTaken_time : u.time = s.time := by rw [edgeTaken_frame h]

theorem honours_of_edgeTaken : u.honours e = true ↔ honoured e s := by
  simp [State.honours, State.tracking, honoured, edgeTaken_node h]

end Taken

theorem code_eq_zero_iff (t : Tote) : (t.track.code == 0) = t.isEntering := by
  unfold Tote.isEntering
  cases t.track <;> rfl

theorem lastEntering_eq (s : State) : s.lastEntering = s.zone.getLast?.any fun t => t.track.code == 0 := by
  rw [State.lastEntering, funext code_eq_zero_iff]

/-! ### Leading edges -/

/-- An edge that is not honoured, or comes while the last record is still ENTERING, changes nothing (R43, R44). -/
theorem entryLeading_ignored {s : State} {e : Edge} (h : s.honours e = false ∨ s.lastEntering = true) :
    s.entryLeading e = s := by
  rcases h with h | h <;> simp [State.entryLeading, h]

theorem entryLeading_full {s : State} {e : Edge} (hh : s.honours e = true) (hl : s.lastEntering = false)
    (hz : 24 ≤ s.zone.length) :
    s.entryLeading e = s.takeTag.2.report .untracked 0 (s.takeTag.1.getD 0) 0 := by
  simp [State.entryLeading, hh, hl, Config.zoneCap, hz]

theorem entryLeading_arrives {s : State} {e : Edge} (hh : s.honours e = true) (hl : s.lastEntering = false)
    (hz : s.zone.length < 24) :
    s.entryLeading e = (s.takeTag.2.arrive e.stamp s.takeTag.1).dropOverdue.exitTests.reTest := by
  simp [State.entryLeading, hh, hl, Config.zoneCap, Nat.not_le.mpr hz]

/-- The state with no pending tag. -/
def withoutTag (s : State) : State := { s with tagPort := { s.tagPort with pending := none } }

theorem takeTag_disabled {s : State} (h : s.params.tagEnable ≠ 1) : s.takeTag = (none, s) := if_neg h

theorem takeTag_enabled {s : State} (h : s.params.tagEnable = 1) :
    s.takeTag = (s.tagPort.pending.map PendingTag.tag, withoutTag s) := if_pos h

/-- The STRAY of an arriving tote that nothing announced (R46, R47). -/
def strayReported (tag : BitVec 32) (s : State) : State :=
  (s.report .stray 0 tag 0).offer .stray (some .staged) (some 3)

theorem arrive_of_found {s : State} {tag : Option (BitVec 32)} {skipped rest : List Notice} {n : Notice} {noRead : Bool}
    (h : entryMatch s.params.tagEnable tag s.expected = .found skipped n rest noRead) (stamp : Pos) :
    s.arrive stamp tag =
      ((({ s with expected := rest } : State).reportMissing 1 skipped).appendEntering stamp n.ident false noRead) := by
  rw [State.arrive, h]

theorem arrive_of_stray {s : State} {tag : Option (BitVec 32)} {t : BitVec 32}
    (h : entryMatch s.params.tagEnable tag s.expected = .stray t) (stamp : Pos) :
    s.arrive stamp tag = (strayReported t s).appendEntering stamp (strayIdent t s.node.address) true false := by
  rw [State.arrive, h]; rfl

theorem entryMatch_disabled {enable : Nat} (h : enable ≠ 1) (tag : Option (BitVec 32)) (l : List Notice) :
    entryMatch enable tag l = matchFront false l := if_neg h

theorem entryMatch_no_tag (l : List Notice) : entryMatch 1 none l = matchFront true l := rfl

theorem entryMatch_tag (t : BitVec 32) (l : List Notice) : entryMatch 1 (some t) l =
    match l.dropWhile fun n => decide (n.ident.tag ≠ t) with
    | [] => .stray t
    | n :: rest => .found (l.takeWhile fun n => decide (n.ident.tag ≠ t)) n rest false := rfl

theorem entryMatch_absent {t : BitVec 32} {l : List Notice} (h : ∀ n ∈ l, n.ident.tag ≠ t) :
    entryMatch 1 (some t) l = .stray t := by
  rw [entryMatch_tag, List.dropWhile_eq_nil_iff.mpr fun n hn => decide_eq_true (h n hn)]

theorem entryMatch_present {t : BitVec 32} {skipped rest : List Notice} {n : Notice} (hn : n.ident.tag = t)
    (h : ∀ m ∈ skipped, m.ident.tag ≠ t) : entryMatch 1 (some t) (skipped ++ n :: rest) = .found skipped n rest false := by
  have hs : ∀ m ∈ skipped, decide (m.ident.tag ≠ t) = true := fun m hm => decide_eq_true (h m hm)
  rw [entryMatch_tag, List.dropWhile_append_of_pos hs, List.takeWhile_append_of_pos hs]
  simp [hn]

/-- Settles O33: which arm of R43 to R48 takes the edge, and the record it makes. -/
theorem leadingEdgesMakeZoneRecords : Obligations.LeadingEdgesMakeZoneRecords := by
  unfold Obligations.LeadingEdgesMakeZoneRecords
  intro s e s' h last stray strayTote noTag
  have hexec : exec .entryEyeBlocked s = .next (s'.entryLeading e).finish := exec_of_edgeTaken h
  have hlast : s'.lastEntering = last := by rw [lastEntering_eq, edgeTaken_zone h]
  have hhon := honours_of_edgeTaken h
  have hnoTag : noTag = withoutTag s' := rfl
  have hadr : s'.node.address = s.node.address := by rw [edgeTaken_node h]
  refine ⟨fun hno => ?_, fun hh hl hz => ⟨fun hen => ?_, fun hen => ?_⟩, fun hh hl hz hen => ?_, fun hh hl hz hen => ?_⟩
  · rw [hexec, entryLeading_ignored]
    exact hno.imp (fun hn => Bool.eq_false_iff.mpr (mt hhon.mp hn)) fun hl => hlast.trans hl
  · rw [← edgeTaken_zone h] at hz
    rw [← edgeTaken_params h] at hen
    rw [hexec, entryLeading_full (hhon.mpr hh) (hlast.trans hl) hz, takeTag_disabled hen]; rfl
  · rw [← edgeTaken_zone h] at hz
    rw [← edgeTaken_params h] at hen
    rw [hexec, entryLeading_full (hhon.mpr hh) (hlast.trans hl) hz, takeTag_enabled hen, edgeTaken_tagPort h]; rfl
  · rw [← edgeTaken_zone h] at hz
    rw [← edgeTaken_params h] at hen
    rw [hexec, entryLeading_arrives (hhon.mpr hh) (hlast.trans hl) hz, takeTag_disabled hen, ← edgeTaken_expected h]
    refine ⟨fun n rest hexp => ?_, fun hexp => ?_⟩
    · rw [arrive_of_found (s := s') (by rw [entryMatch_disabled hen, hexp]; rfl)]; rfl
    · rw [arrive_of_stray (s := s') (t := 0) (by rw [entryMatch_disabled hen, hexp]; rfl), hadr]; rfl
  · rw [← edgeTaken_zone h] at hz
    rw [← edgeTaken_params h] at hen
    rw [hexec, entryLeading_arrives (hhon.mpr hh) (hlast.trans hl) hz, takeTag_enabled hen, ← edgeTaken_expected h,
      ← edgeTaken_tagPort h]
    have hen' : (withoutTag s').params.tagEnable = 1 := hen
    refine ⟨fun hp n rest hexp => ?_, fun hp hexp => ?_, fun x hp habsent => ?_, fun x skipped n rest hp hexp hn hm => ?_⟩
    · rw [hp, arrive_of_found (s := withoutTag s') (n := n) (rest := rest) (skipped := []) (noRead := true)]
      · rfl
      · rw [hen', show (withoutTag s').expected = n :: rest from hexp]; rfl
    · rw [hp, arrive_of_stray (s := withoutTag s') (t := 0), show (withoutTag s').node.address = s.node.address from hadr]
      · rfl
      · rw [hen', show (withoutTag s').expected = [] from hexp]; rfl
    · rw [hp, arrive_of_stray (s := withoutTag s') (t := x.tag), show (withoutTag s').node.address = s.node.address from hadr]
      · rfl
      · rw [hen']; exact entryMatch_absent habsent
    · rw [hp, arrive_of_found (s := withoutTag s') (n := n) (rest := rest) (skipped := skipped) (noRead := false)]
      · rfl
      · rw [hen', show (withoutTag s').expected = skipped ++ n :: rest from hexp]; exact entryMatch_present hn hm

/-! ### Trailing edges -/

theorem nominalLength_eq (p : Params) (size : Size) : nominalLength p size = p.nominal size := by cases size <;> rfl

theorem armedFor_eq (s : State) (lead : Pos) (len : Nat) (k : Ix) : armedFor s lead len k = s.armedTrack lead len k := rfl

theorem armedTrack_congr {s u : State} (hp : u.params = s.params) (hq : u.pos = s.pos) (lead : Pos) (len : Nat) (k : Ix) :
    u.armedTrack lead len k = s.armedTrack lead len k := by
  rw [State.armedTrack, State.armedTrack, hp, hq]

theorem measuredLength_eq (lead stamp : Pos) :
    measuredLength lead stamp = (max 1 (min 65535 (Machine.dist lead stamp))).toNat := rfl

theorem mismatch_eq (s : State) (size : Size) (len : Nat) : s.mismatch size len =
    if len + s.params.lenTol < s.params.nominal size ∨ s.params.nominal size + s.params.lenTol < len then
      some (if len < s.params.nominal size then 1 else 2) else none := by
  unfold State.mismatch
  simp only []
  split
  · next h => rw [if_pos (.inl h), if_pos (by omega)]
  · next h =>
    by_cases h2 : s.params.nominal size + s.params.lenTol < len
    · rw [if_pos h2, if_pos (.inr h2), if_neg (by omega)]
    · rw [if_neg h2, if_neg (by omega)]

theorem entryTrailing_ignored {s : State} {e : Edge} (h : s.honours e = false ∨ s.lastEntering = false) :
    s.entryTrailing e = s := by
  unfold State.entryTrailing
  rcases h with h | h
  · simp [h]
  · split
    · rfl
    · cases hl : s.zone.getLast? with
      | none => rfl
      | some t =>
        have ht : t.isEntering = false := by simpa [State.lastEntering, hl] using h
        unfold Tote.isEntering at ht
        cases hk : t.track with
        | entering => rw [hk] at ht; cases ht
        | _ => simp [hk]

theorem entryTrailing_measures {s : State} {e : Edge} {init : List Tote} {t : Tote} {d : Decision}
    (hh : s.honours e = true) (hz : s.zone = init ++ [t]) (ht : t.track = .entering d) :
    s.entryTrailing e = (s.closeEntering e.stamp init t d).claims.reTest := by
  simp [State.entryTrailing, hh, hz, ht]

/-- The measured length differs from the nominal one by more than LEN_TOL (R51). -/
def mismatched (s : State) (size : Size) (len : Nat) : Bool :=
  decide (len + s.params.lenTol < s.params.nominal size ∨ s.params.nominal size + s.params.lenTol < len)

/-- The measured record's LENGTH_MISMATCH flag (R51). -/
def measuredTote (t : Tote) (wrong : Bool) : Tote :=
  { t with flags := { t.flags with lengthMismatch := t.flags.lengthMismatch || wrong } }

/-- The LENGTH_MISMATCH report of a measured record (R51). -/
def mismatchReported (t : Tote) (len : Nat) (s : State) : State :=
  if mismatched s t.ident.size len = true then
    s.report .lengthMismatch (if len < s.params.nominal t.ident.size then 1 else 2) t.ident.tag t.ident.order
  else s

theorem mismatch_isSome (s : State) (size : Size) (len : Nat) :
    (s.mismatch size len).isSome = mismatched s size len := by
  rw [mismatch_eq, mismatched]
  split
  · next h => rw [decide_eq_true h]; rfl
  · next h => rw [decide_eq_false h]; rfl

theorem mismatchReported_eq (t : Tote) (len : Nat) (s : State) :
    (match s.mismatch t.ident.size len with
      | some n => s.report .lengthMismatch n t.ident.tag t.ident.order
      | none => s) = mismatchReported t len s := by
  rw [mismatch_eq, mismatchReported, mismatched]
  by_cases h : len + s.params.lenTol < s.params.nominal t.ident.size ∨
      s.params.nominal t.ident.size + s.params.lenTol < len
  · rw [if_pos h, if_pos (decide_eq_true h)]
  · rw [if_neg h, if_neg (by simpa using h)]

theorem closeEntering_pass (stamp : Pos) (init : List Tote) (t : Tote) (s : State) :
    s.closeEntering stamp init t .pass = { mismatchReported t (measuredLength t.lead stamp) s with
      zone := init ++ [{ measuredTote t (mismatched s t.ident.size (measuredLength t.lead stamp)) with
        track := .riding (measuredLength t.lead stamp) none }] } := by
  rw [← mismatchReported_eq, ← mismatch_isSome]; rfl

theorem closeEntering_land (stamp : Pos) (init : List Tote) (t : Tote) (k : Ix) (s : State) :
    s.closeEntering stamp init t (.land k) =
      let len := measuredLength t.lead stamp
      let x := mismatchReported t len s
      let a := x.testArmed { measuredTote t (mismatched s t.ident.size len) with track := x.armedTrack t.lead len k }
      { a.2 with zone := init ++ [a.1] } := by
  simp only [← mismatchReported_eq, ← mismatch_isSome]; rfl

theorem recordsOnly_mismatchReported (t : Tote) (len : Nat) (s : State) :
    State.RecordsOnly s (mismatchReported t len s) :=
  .ite (.report ..) (.refl s)

/-- Settles O34: the record at the back is measured by the edge's stamp, flagged, and handed on by its decision. -/
theorem trailingEdgesMeasureTheTote : Obligations.TrailingEdgesMeasureTheTote := by
  unfold Obligations.TrailingEdgesMeasureTheTote
  intro s e s' h
  have hexec : exec .entryEyeClear s = .next (s'.entryTrailing e).finish := exec_of_edgeTaken h
  have hhon := honours_of_edgeTaken h
  have hparams := edgeTaken_params h
  refine ⟨fun hno => ?_, fun init t d hh hz ht => ?_⟩
  · rw [hexec, entryTrailing_ignored]
    refine hno.imp (fun hn => Bool.eq_false_iff.mpr (mt hhon.mp hn)) fun hl => ?_
    rw [lastEntering_eq, edgeTaken_zone h]; exact hl
  · intro len nominal wrong t1 x
    rw [← edgeTaken_zone h] at hz
    rw [hexec, entryTrailing_measures (hhon.mpr hh) hz ht]
    have hwrong : mismatched s' t.ident.size len = wrong := by
      simp only [mismatched, wrong, nominal, nominalLength_eq, hparams]
    have hx : mismatchReported t len s' = x := by
      simp only [mismatchReported, x, hwrong, nominal, nominalLength_eq, hparams]
    have hlen : measuredLength t.lead e.stamp = len := rfl
    refine ⟨fun hd => ?_, fun k hd => ?_⟩
    · rw [hd, closeEntering_pass, hlen, hx, hwrong]; rfl
    · have hrec := recordsOnly_mismatchReported t len s'
      have harmed : x.armedTrack t.lead len k = armedFor s t.lead len k := by
        rw [armedFor_eq, ← hx]
        exact armedTrack_congr (hrec.params.trans hparams) (hrec.pos.trans (edgeTaken_pos h)) ..
      rw [hd, closeEntering_land]
      simp only [hlen, hx, hwrong, harmed]
      rw [← testDivert_of_code (by exact nofun)]
      rfl

end Sys2Proof.Belt
end

section
/-! Confirm-eye blocked edges (R12, R87 to R91). -/

namespace Sys2Proof.Belt

open Sys2Proof.Machine Sys2Proof.Claims

theorem takeConfirming_cons_of_confirming {k : Ix} {t : Tote} (h : confirmingAt k t) (l : List Tote) :
    takeConfirming k (t :: l) = some (t, l) := by
  obtain ⟨hcode, hbay⟩ := h
  unfold Tote.decision at hbay
  cases hk : t.track with
  | confirming =>
    rw [hk] at hbay
    cases hbay
    simp [takeConfirming, hk]
  | _ => rw [hk] at hcode; cases hcode

theorem takeConfirming_cons_of_not {k : Ix} {t : Tote} (h : ¬ confirmingAt k t) (l : List Tote) :
    takeConfirming k (t :: l) = (takeConfirming k l).map fun x => (x.1, t :: x.2) := by
  cases hk : t.track with
  | confirming len j base fired windowEnd =>
    have hj : ¬ j = k := fun hj => h ⟨by rw [hk]; rfl, by simp [Tote.decision, hk, hj]⟩
    simp [takeConfirming, hk, hj]
  | _ => simp [takeConfirming, hk]

/-- The CONFIRMING record nearest the front (R87). -/
theorem takeConfirming_append {k : Ix} {a b : List Tote} {t : Tote} (ht : confirmingAt k t)
    (ha : ∀ r ∈ a, ¬ confirmingAt k r) : takeConfirming k (a ++ t :: b) = some (t, a ++ b) := by
  induction a with
  | nil => exact takeConfirming_cons_of_confirming ht b
  | cons r a ih =>
    obtain ⟨hr, ha⟩ := List.forall_mem_cons.mp ha
    rw [List.cons_append, takeConfirming_cons_of_not hr, ih ha]; rfl

theorem takeConfirming_none {k : Ix} {l : List Tote} (h : ∀ r ∈ l, ¬ confirmingAt k r) : takeConfirming k l = none := by
  induction l with
  | nil => rfl
  | cons r l ih =>
    obtain ⟨hr, hl⟩ := List.forall_mem_cons.mp h
    rw [takeConfirming_cons_of_not hr, ih hl]; rfl

theorem blockedFor_eq (i : EyeId) (s : State) :
    s.blockedFor i = ((s.eyes.get i).since.map fun x => (s.time.ticks - x.2).toNat).getD 0 := by
  unfold State.blockedFor
  cases (s.eyes.get i).since <;> rfl

/-- The zone record gone, its reservation released (R87). -/
def landedRecord (k : Ix) (rest : List Tote) (s : State) : State :=
  ({ s with zone := rest } : State).modBay k fun b => { b with reserved := b.reserved - 1 }

theorem landTote_room {k : Ix} {s : State} (h : (s.bays.get k).landing.length < 8) (t : Tote) (rest : List Tote) :
    s.landTote k t rest =
      ((reportIf .landed k.toNat t.ident.tag t.ident.order
        ((landedRecord k rest s).modBay k fun b => { b with landing := b.landing ++ [landingOf t] })).offer .divertDone
          (some t.ident.cls) (some k.toNat)).assemblyLanding k (landingOf t) := by
  have hfull : decide (Config.landingCap ≤ (s.bays.get k).landing.length) = false :=
    decide_eq_false (Nat.not_le.mpr h)
  simp only [State.landTote, hfull, Bool.false_eq_true, if_false]
  rfl

theorem landTote_full {k : Ix} {s : State} (h : 8 ≤ (s.bays.get k).landing.length) (t : Tote) (rest : List Tote) :
    s.landTote k t rest =
      (reportIf .landed (3 + k.toNat) t.ident.tag t.ident.order (landedRecord k rest s)).offer .divertDone
        (some t.ident.cls) (some k.toNat) := by
  have hfull : decide (Config.landingCap ≤ (s.bays.get k).landing.length) = true :=
    decide_eq_true h
  simp only [State.landTote, hfull, if_true]
  rfl

/-- Settles O37: the landing and the timer are independent, and the lane's place decides what is handed on. -/
theorem confirmEdgesLandTotes : Obligations.ConfirmEdgesLandTotes := by
  unfold Obligations.ConfirmEdgesLandTotes
  intro s k e u h passed s'
  have hexec : exec (.confirmEyeBlocked k) s = .next (u.confirmBlocked k).finish := exec_of_edgeTaken h
  have hs' : u.startChuteJam k = s' := by
    rw [State.startChuteJam, blockedFor_eq, edgeTaken_params h, edgeTaken_time h]; rfl
  have hlane : (s'.bays.get k).landing = (s.bays.get k).landing := by
    rw [State.modBay_bays_get, if_pos rfl, edgeTaken_bays h]
  rw [← edgeTaken_zone h]
  refine ⟨fun a t b hz ht ha => ?_, fun hno => ?_⟩
  · intro x
    have hland : u.confirmBlocked k = ((s'.landTote k t (a ++ b)).exitTests).reTest := by
      simp only [State.confirmBlocked, hz, takeConfirming_append ht ha, hs']
    rw [hexec, hland]
    refine ⟨fun hroom => ?_, fun hfull => ?_⟩
    · rw [landTote_room (hlane ▸ hroom)]; rfl
    · rw [landTote_full (hlane ▸ hfull)]; rfl
  · have hunexpected : u.confirmBlocked k = s'.landUnexpected k := by
      simp only [State.confirmBlocked, takeConfirming_none hno, hs']
    rw [hexec, hunexpected, State.landUnexpected, hlane]
    refine ⟨fun hroom => ?_, fun hfull => ?_⟩
    · rw [if_pos (show _ < Config.landingCap from hroom)]; rfl
    · rw [if_neg (show ¬ _ < Config.landingCap from Nat.not_lt.mpr hfull)]

end Sys2Proof.Belt
end

section
/-! Gate-eye edges (R30, R102 to R105, R110 to R112). -/

namespace Sys2Proof.Belt

open Sys2Proof.Machine Sys2Proof.Claims

/-! ### The place of a merged record (R30) -/

/-- The zone list at a merged record's place: the records from the last one on whose lead is reached, and those behind. -/
theorem exists_place (lead : Pos) (zone : List Tote) : ∃ a b, zone = a ++ b ∧
    zone.take (placeOf lead zone) = a ∧ zone.drop (placeOf lead zone) = b ∧
    (∀ r ∈ b, reached lead r.lead = false) ∧ ∀ r ∈ a.getLast?, reached lead r.lead = true := by
  generalize hp : (fun t : Tote => !reached lead t.lead) = p
  have hsplit : zone = (zone.reverse.dropWhile p).reverse ++ (zone.reverse.takeWhile p).reverse := by
    rw [← List.reverse_append, List.takeWhile_append_dropWhile, List.reverse_reverse]
  have hplace : placeOf lead zone = (zone.reverse.dropWhile p).reverse.length := by
    have hlen := congrArg List.length hsplit
    rw [List.length_append, List.length_reverse (as := zone.reverse.takeWhile p)] at hlen
    rw [placeOf, hp]
    omega
  refine ⟨_, _, hsplit, ?_, ?_, fun r hr => ?_, fun r hr => ?_⟩
  · rw [hplace]; exact (congrArg (List.take _) hsplit).trans List.take_left
  · rw [hplace]; exact (congrArg (List.drop _) hsplit).trans List.drop_left
  · have := List.mem_takeWhile_imp (List.mem_reverse.mp hr)
    simpa [← hp] using this
  · rw [List.getLast?_reverse] at hr
    have hhead := List.head?_dropWhile_not p zone.reverse
    rw [Option.mem_def.mp hr] at hhead
    simpa [← hp] using hhead

theorem insertByLead_place (t : Tote) (zone : List Tote) : ∃ a b, zone = a ++ b ∧ insertByLead t zone = a ++ t :: b ∧
    (∀ r ∈ b, reached t.lead r.lead = false) ∧ (∀ r ∈ a.getLast?, reached t.lead r.lead = true) ∧
    (becomesCandidate t.lead zone = true ↔ ∀ r ∈ a, r.claim.isSome = true) := by
  obtain ⟨a, b, hsplit, ha, hb, hbehind, hlast⟩ := exists_place t.lead zone
  refine ⟨a, b, hsplit, ?_, hbehind, hlast, ?_⟩
  · rw [insertByLead, ha, hb]
  · rw [becomesCandidate, ha, List.all_eq_true]

/-! ### The owner's acts -/

theorem modSpur_congr {s : State} {i : Ix} {f g : Spur → Spur} (h : f (s.spurs.get i) = g (s.spurs.get i)) :
    s.modSpur i f = s.modSpur i g := by
  rw [State.modSpur, modify_congr h, ← State.modSpur]

theorem gateActs_iff (i : Ix) (s : State) :
    s.gateActs i = true ↔ s.node.state ≠ .config ∧ (s.params.spur.get i).enable = 1 := by
  simp [State.gateActs, State.tracking, Params.spurEnabled]

theorem gateBlocked_acts {i : Ix} {s : State} (ha : s.gateActs i = true) (hst : (s.spurs.get i).st = .empty) :
    s.gateBlocked i = (s.toteAtGate i).reTest := by
  simp [State.gateBlocked, ha, hst]

theorem gateBlocked_ignored {i : Ix} {s : State} (h : s.gateActs i = false ∨ (s.spurs.get i).st ≠ .empty) :
    s.gateBlocked i = s := by
  rcases h with h | h <;> simp [State.gateBlocked, h]

theorem gateCleared_ignored {i : Ix} {s : State} (e : Edge)
    (h : s.gateActs i = false ∨ (s.spurs.get i).st = .empty ∨ (s.spurs.get i).st = .blocked) : s.gateCleared i e = s := by
  rcases h with h | h | h <;> simp [State.gateCleared, h]

theorem gateCleared_waiting {i : Ix} {s : State} (e : Edge) {r : SpurRec} {rest : List SpurRec}
    (ha : s.gateActs i = true) (hst : (s.spurs.get i).st = .waiting) (hlist : (s.spurs.get i).list = r :: rest) :
    s.gateCleared i e =
      (s.modSpur i fun x => { x with st := .empty, list := rest }).report .spurLost i.toNat r.ident.tag r.ident.order := by
  have hmod : (s.modSpur i fun x => { x with st := .empty, list := x.list.tail }) =
      s.modSpur i fun x => { x with st := .empty, list := rest } := modSpur_congr (by rw [hlist]; rfl)
  simp only [State.gateCleared, ha, if_true, hst, State.loseFront, hlist, hmod]

theorem gateCleared_granted {i : Ix} {s : State} (e : Edge) {g : Grant} (ha : s.gateActs i = true)
    (hst : (s.spurs.get i).st = .granted g) : s.gateCleared i e = (s.gateReleased i e.stamp g).reTest := by
  simp only [State.gateCleared, ha, if_true, hst]

/-- A spur whose grant has ended with its tote gone, `rest` being the records behind it (R111, R112). -/
def freedSpur (rest : List SpurRec) (y : Spur) : Spur :=
  { y with st := .empty, list := rest, gateTimer := none, releaseTimer := none }

theorem modSpur_released {i : Ix} {s : State} {r : SpurRec} {rest : List SpurRec}
    (hlist : (s.spurs.get i).list = r :: rest) : s.modSpur i Spur.released = s.modSpur i (freedSpur rest) :=
  modSpur_congr (by rw [Spur.released, hlist]; rfl)

theorem discardGranted_eq {i : Ix} {s : State} {r : SpurRec} {rest : List SpurRec}
    (hlist : (s.spurs.get i).list = r :: rest) (g : Grant) (why : ReportKind) (d : Nat) :
    s.discardGranted i g r why d =
      ((s.releaseDecision g.decision).modSpur i (freedSpur rest)).report why d r.ident.tag r.ident.order := by
  have hkeep : ((s.releaseDecision g.decision).spurs.get i).list = r :: rest := by
    rw [State.releaseDecision_frame]; exact hlist
  rw [State.discardGranted, modSpur_released hkeep]

theorem insertGranted_eq {i : Ix} {s : State} {r : SpurRec} {rest : List SpurRec}
    (hlist : (s.spurs.get i).list = r :: rest) (g : Grant) :
    s.insertGranted i g r =
      let x := (s.modSpur i (freedSpur rest)).offer .mergeDone (some r.ident.cls) (some i.toNat)
      let a := x.testDivert (s.mergedTote r g)
      State.exitTests { a.2 with
        zone := insertByLead a.1 s.zone
        credit := { s.credit with exitHold := s.credit.exitHold && !becomesCandidate g.lead s.zone } } := by
  have hcode : (s.mergedTote r g).track.code ≠ 3 := by
    unfold State.mergedTote
    cases g.decision <;> exact nofun
  have hcredit : ∀ (x : State) (t : Tote), (x.testArmed t).2.credit = x.credit := fun x t => by
    rw [State.testArmed_frame]
  simp only [State.insertGranted, modSpur_released hlist, testDivert_of_code hcode, hcredit]
  rfl

/-- Settles O41: the place of a merged record, and each arm of R102 to R112 by the spur's state. -/
theorem gateEdgesMatchLoseAndMerge : Obligations.GateEdgesMatchLoseAndMerge := by
  unfold Obligations.GateEdgesMatchLoseAndMerge
  refine ⟨insertByLead_place, fun s i e s' => ?_⟩
  intro acts p
  refine ⟨fun h => ?_, fun h => ?_⟩
  · have hexec : exec (.gateEyeBlocked i) s = .next (s'.gateBlocked i).finish := exec_of_edgeTaken h
    have hacts : s'.gateActs i = true ↔ acts := by rw [gateActs_iff, edgeTaken_node h, edgeTaken_params h]
    rw [← edgeTaken_spurs h]
    refine ⟨fun hno => ?_, fun ha hst => ?_⟩
    · rw [hexec, gateBlocked_ignored]
      exact hno.imp_left fun hn => Bool.eq_false_iff.mpr (mt hacts.mp hn)
    · rw [hexec, gateBlocked_acts (hacts.mpr ha) hst]
      refine ⟨fun r rest hlist => ?_, fun hlist => ?_⟩
      · simp only [State.toteAtGate, hlist]
      · simp only [State.toteAtGate, hlist, strayIdent, edgeTaken_node h]
  · have hexec : exec (.gateEyeClear i) s = .next (s'.gateCleared i e).finish := exec_of_edgeTaken h
    have hacts : s'.gateActs i = true ↔ acts := by rw [gateActs_iff, edgeTaken_node h, edgeTaken_params h]
    rw [← edgeTaken_spurs h, ← edgeTaken_zone h]
    refine ⟨fun hno => ?_, fun r rest ha hlist => ⟨fun hst => ?_, fun g hst => ?_⟩⟩
    · rw [hexec, gateCleared_ignored]
      exact hno.imp_left fun hn => Bool.eq_false_iff.mpr (mt hacts.mp hn)
    · rw [hexec, gateCleared_waiting e (hacts.mpr ha) hst hlist]
    · intro late freed released
      have hlate : reached e.stamp (s'.latePoint i g) = late := by
        rw [State.latePoint, edgeTaken_params h]; rfl
      have hreleased : s'.releaseDecision g.decision = released := by
        simp only [released]; cases g.decision <;> rfl
      have hcases : s'.gateReleased i e.stamp g =
          if late = true then s'.discardGranted i g r .spurLate i.toNat
          else if Config.zoneCap ≤ s'.zone.length then s'.discardGranted i g r .untracked (1 + i.toNat)
          else s'.insertGranted i g r := by
        simp only [State.gateReleased, hlist, hlate]
      rw [hexec, gateCleared_granted e (hacts.mpr ha) hst, hcases]
      refine ⟨fun hl => ?_, fun hl hfull => ?_, fun hl hroom => ?_⟩
      · rw [if_pos hl, discardGranted_eq hlist, hreleased]; rfl
      · rw [if_neg (by simp [hl]), if_pos (show Config.zoneCap ≤ _ from hfull), discardGranted_eq hlist, hreleased]; rfl
      · intro x len t a
        have ht : s'.mergedTote r g = t := by
          have harmed : ∀ k, s'.armedTrack g.lead len k = armedFor s g.lead len k := fun k =>
            armedTrack_congr (edgeTaken_params h) (edgeTaken_pos h) ..
          simp only [State.mergedTote, t, ← harmed, edgeTaken_params h, ← nominalLength_eq]
          cases g.decision <;> rfl
        rw [if_neg (by simp [hl]), if_neg (show ¬ Config.zoneCap ≤ _ from Nat.not_le.mpr hroom), insertGranted_eq hlist, ht,
          edgeTaken_credit h]
        rfl

end Sys2Proof.Belt
end

section
/-! Merge arbitration (R106 to R109). -/

namespace Sys2Proof.Belt

open Sys2Proof.Machine Sys2Proof.Claims

theorem mem_filter_all {p : Ix → Bool} {i : Ix} : i ∈ Ix.all.filter p ↔ p i = true := by
  simp [List.mem_filter, Ix.mem_all]

theorem any_all_iff {p : Ix → Bool} : Ix.all.any p = true ↔ ∃ i, p i = true := by
  simp [List.any_eq_true, Ix.mem_all]

/-! ### The winner (R108) -/

/-- The place of a spur in the cyclic order after the last winner. -/
def turn (last i : Ix) : Nat := (i.toNat + 2 - last.toNat) % 3

/-- The first spur in turn among those a test keeps. -/
theorem find_in_turn {last w : Ix} {p : Ix → Bool} (hw : p w = true) (hfirst : ∀ j, p j = true → turn last w ≤ turn last j) :
    [last.succ, last.succ.succ, last].find? p = some w := by
  have hbefore : ∀ j, turn last j < turn last w → p j = false := fun j hj =>
    Bool.eq_false_iff.mpr fun hp => Nat.not_lt.mpr (hfirst j hp) hj
  by_cases h1 : w = last.succ
  · rw [← h1, List.find?_cons_of_pos hw]
  have ho1 : turn last last.succ < turn last w := by
    clear hfirst hbefore; revert h1; cases last <;> cases w <;> decide
  rw [List.find?_cons_of_neg (Bool.eq_false_iff.mp (hbefore _ ho1))]
  by_cases h2 : w = last.succ.succ
  · rw [← h2, List.find?_cons_of_pos hw]
  have ho2 : turn last last.succ.succ < turn last w := by
    clear hfirst hbefore ho1; revert h1 h2; cases last <;> cases w <;> decide
  have h3 : w = last := by
    clear hfirst hbefore ho1 ho2; revert h1 h2; cases last <;> cases w <;> decide
  rw [List.find?_cons_of_neg (Bool.eq_false_iff.mp (hbefore _ ho2)), ← h3, List.find?_cons_of_pos hw]

theorem frontIs_eq (c : Cls) (x : Spur) : x.frontIs c = frontClass x c := by
  unfold Spur.frontIs frontClass
  cases x.list <;> rfl

/-- An eligible spur with a STAGED tote passed over often enough (R108). -/
def stagedInTurn (s : State) (i : Ix) : Bool :=
  s.eligible i && frontClass (s.spurs.get i) .staged && decide (s.params.patience ≤ (s.spurs.get i).passedOver)

/-- An eligible spur with a RUSH tote (R108). -/
def rushInTurn (s : State) (i : Ix) : Bool := s.eligible i && frontClass (s.spurs.get i) .rush

/-- A candidate of R108. -/
def isCandidate (s : State) (i : Ix) : Bool :=
  if Ix.all.any (stagedInTurn s) then stagedInTurn s i
  else if Ix.all.any (rushInTurn s) then rushInTurn s i else s.eligible i

theorem eligible_of_isCandidate {s : State} {i : Ix} (h : isCandidate s i = true) : s.eligible i = true := by
  simp only [isCandidate, stagedInTurn, rushInTurn] at h
  split at h
  · simp only [Bool.and_eq_true] at h; exact h.1.1
  · split at h
    · simp only [Bool.and_eq_true] at h; exact h.1
    · exact h

theorem filter_ne_nil_iff {p : Ix → Bool} : Ix.all.filter p ≠ [] ↔ Ix.all.any p = true := by
  rw [any_all_iff, Ne, List.filter_eq_nil_iff]
  simp [Ix.mem_all]

theorem mem_candidates_iff (s : State) (i : Ix) :
    i ∈ s.candidates (Ix.all.filter s.eligible) ↔ isCandidate s i = true := by
  have hstaged : (Ix.all.filter s.eligible).filter (fun i =>
      (s.spurs.get i).frontIs .staged && decide (s.params.patience ≤ (s.spurs.get i).passedOver)) =
      Ix.all.filter (stagedInTurn s) := by
    rw [List.filter_filter]
    refine List.filter_congr fun i _ => ?_
    rw [frontIs_eq, Bool.and_comm, stagedInTurn, Bool.and_assoc]
  have hrush : (Ix.all.filter s.eligible).filter (fun i => (s.spurs.get i).frontIs .rush) =
      Ix.all.filter (rushInTurn s) := by
    rw [List.filter_filter]
    refine List.filter_congr fun i _ => ?_
    rw [frontIs_eq, Bool.and_comm, rushInTurn]
  simp only [State.candidates, hstaged, hrush, filter_ne_nil_iff, isCandidate]
  split
  · exact mem_filter_all
  · split <;> exact mem_filter_all

theorem winner_eq {s : State} {w : Ix} (hw : isCandidate s w = true)
    (hfirst : ∀ j, isCandidate s j = true → turn s.lastWinner w ≤ turn s.lastWinner j) :
    s.winner (Ix.all.filter s.eligible) = some w := by
  have hp : (fun i => decide (i ∈ s.candidates (Ix.all.filter s.eligible))) = isCandidate s := funext fun i => by
    rw [← Bool.coe_iff_coe, decide_eq_true_iff, mem_candidates_iff]
  simp only [State.winner, hp]
  exact find_in_turn hw hfirst

/-! ### Eligibility (R106) -/

theorem anyGranted_eq_false_iff (s : State) : s.anyGranted = false ↔ ∀ j g, (s.spurs.get j).st ≠ .granted g := by
  have hst : ∀ st : SpurState, st.isGranted = false ↔ ∀ g, st ≠ .granted g := fun st => by
    cases st <;> simp [SpurState.isGranted]
  simp [State.anyGranted, Ix.mem_all, hst]

theorem trail_eq (P : Pos) (t : Tote) :
    t.trail P = if t.track.code = 0 then P else t.lead + BitVec.ofNat 24 t.track.length := by
  unfold Tote.trail
  cases t.track <;> rfl

theorem windowClear_iff (s : State) (i : Ix) (size : Size) : s.windowClear i size = true ↔ ∀ t ∈ s.zone,
    reached (s.virtualLead i) (posAdd (t.trail s.pos.P) s.params.gap) = true ∨
      reached t.lead (posAdd (posAdd (s.virtualLead i) (s.params.nominal size)) s.params.gap) = true := by
  simp [State.windowClear, clearOf]

theorem front_of_eligible {s : State} {i : Ix} (h : s.eligible i = true) :
    ∃ r rest, (s.spurs.get i).list = r :: rest := by
  cases hl : (s.spurs.get i).list with
  | nil => simp [State.eligible, hl] at h
  | cons r rest => exact ⟨r, rest, rfl⟩

theorem eligible_iff (s : State) (i : Ix) : s.eligible i = true ↔
    (s.spurs.get i).st = .waiting ∧ s.node.state = .run ∧ s.credit.exitHold = false ∧
      (s.params.mergeMinSpeed : Int) ≤ s.pos.S ∧ s.anyGranted = false ∧
      s.expected.length + s.zone.length + s.credit.o < s.params.zoneBudget ∧
      ∃ r rest, (s.spurs.get i).list = r :: rest ∧ s.windowClear i r.ident.size = true := by
  cases hl : (s.spurs.get i).list with
  | nil => simp [State.eligible, hl]
  | cons r rest =>
    cases hg : s.anyGranted <;>
      simp [State.eligible, State.beltRun, State.budget, hl, hg, and_assoc, and_left_comm, and_comm]

/-! ### The grant (R109) -/

/-- The state of an arbitration won by w before its grant (R108). -/
def arbitrated (w : Ix) (s : State) : State :=
  { s with
    lastWinner := w
    spurs := .ofFn fun i => { s.spurs.get i with
      passedOver := if i = w then 0 else if s.eligible i = true then min 15 ((s.spurs.get i).passedOver + 1)
        else (s.spurs.get i).passedOver } }

theorem passOver_eq (s : State) (w i : Ix) : passOver (Ix.all.filter s.eligible) w i (s.spurs.get i) =
    { s.spurs.get i with
      passedOver := if i = w then 0 else if s.eligible i = true then min 15 ((s.spurs.get i).passedOver + 1)
        else (s.spurs.get i).passedOver } := by
  unfold passOver
  split
  · rfl
  · rw [if_congr mem_filter_all rfl rfl]
    split <;> rfl

theorem arbitrate_of_winner {s : State} {w : Ix} (h : s.winner (Ix.all.filter s.eligible) = some w) :
    s.arbitrate = (arbitrated w s).grantSpur w := by
  simp only [State.arbitrate, h, passOver_eq]
  rfl

theorem routeEffects_eq (i : Ident) (stray : Bool) (o : RouteOutcome) (s : State) :
    s.routeEffects i stray o = routeLeaves o i stray s := by
  unfold State.routeEffects routeLeaves State.reserve
  cases o.decision <;> rfl

theorem grantSpur_arbitrated {s : State} {w : Ix} {r : SpurRec} {rest : List SpurRec}
    (h : (s.spurs.get w).list = r :: rest) :
    (arbitrated w s).grantSpur w =
      (routeLeaves (s.routeChoice r.ident) r.ident r.stray (arbitrated w s)).modSpur w fun y => { y with
        st := .granted ⟨s.virtualLead w, (s.routeChoice r.ident).decision, (s.routeChoice r.ident).overflow,
          (s.routeChoice r.ident).noRoute⟩
        gateTimer := some (s.params.spur.get w).gateMs
        releaseTimer := some (s.params.spur.get w).releaseMs } := by
  have hlist : ((arbitrated w s).spurs.get w).list = r :: rest := by
    rw [arbitrated, Tri.get_ofFn]; exact h
  have hchoice : (arbitrated w s).routeChoice r.ident = s.routeChoice r.ident := rfl
  simp only [State.grantSpur, hlist, hchoice, routeEffects_eq]
  rfl

/-- Settles O42: the winner is the first candidate in turn, and the grant follows R109 on the state it leaves. -/
theorem mergeArbitrationGrantsOneSpur : Obligations.MergeArbitrationGrantsOneSpur := by
  unfold Obligations.MergeArbitrationGrantsOneSpur
  intro s el staged rush candidate
  refine ⟨State.arbitrate_of_none, fun w hw hfirst => ?_, fun i => ?_⟩
  · intro x
    obtain ⟨r, rest, hlist⟩ := front_of_eligible (eligible_of_isCandidate hw)
    refine ⟨r, rest, hlist, ?_⟩
    rw [arbitrate_of_winner (winner_eq hw hfirst), grantSpur_arbitrated hlist]
    rfl
  · rw [eligible_iff, anyGranted_eq_false_iff]
    simp only [windowClear_iff, trail_eq, nominalLength_eq]
    rfl

end Sys2Proof.Belt
end

section
/-! The laws of parameters, position and eyes, and what of a state they read (R2, R9, R12, R54, R176). -/

namespace Sys2Proof.Machine

/-- What the laws of parameters, position and eyes read. -/
structure InputPart where
  params : Params
  sub : Int
  S : Int
  comp : Tri Nat
  invalid : Nat
  eyes : EyeUnit
  estopCount : Nat
  jamAt : Option Pos
  pending : List Instr

def State.inputPart (s : State) : InputPart :=
  ⟨s.params, s.pos.sub, s.pos.S, s.pos.comp, s.pos.invalid, s.eyes, s.node.estopCount, s.jamAt, s.pending⟩

/-- t and s agree in what the laws of parameters, position and eyes read. -/
def State.SameInputs (s t : State) : Prop := t.inputPart = s.inputPart

namespace State.SameInputs

variable {s t u : State}

theorem refl (s : State) : SameInputs s s := rfl

theorem trans (h : SameInputs s t) (k : SameInputs t u) : SameInputs s u := Eq.trans k h

theorem ofRecords (h : RecordsOnly s t) : SameInputs s t := by
  unfold SameInputs State.inputPart
  rw [h.params, h.pos, h.eyes, h.node, h.jamAt, h.pending]

theorem ite {p : Prop} [Decidable p] (h : SameInputs s t) (k : SameInputs s u) :
    SameInputs s (if p then t else u) := by
  split <;> assumption

theorem finish (s : State) : SameInputs s s.finish := by
  rw [State.finish_frame]; exact rfl

theorem reTest (s : State) : SameInputs s s.reTest := ofRecords (.reTest s)

theorem enterHalt (c : HaltCause) (s : State) : SameInputs s (s.enterHalt c) := by
  have hn : (s.enterHalt c).node.estopCount = s.node.estopCount := by
    rw [State.enterHalt_node]; split <;> rfl
  unfold SameInputs
  rw [State.inputPart, hn, State.enterHalt_frame]; rfl

theorem positionChange (s : State) : SameInputs s s.positionChange := by
  have hjam : SameInputs s.expireTag.dropOverdue s.expireTag.dropOverdue.jamTest := .ite (.enterHalt ..) (.refl _)
  have hbefore : RecordsOnly s s.expireTag.dropOverdue := (RecordsOnly.expireTag s).trans (.dropOverdue _)
  exact (((ofRecords hbefore).trans hjam).trans (ofRecords (.divertTests_testDivert _))).trans
    ((ofRecords (.exitTests _)).trans (.reTest _))

theorem enterConfig (s : State) : SameInputs s s.enterConfig := by
  have hempty : RecordsOnly s { s with expected := [], zone := [] } := rfl
  have hreport := ofRecords (hempty.trans (.report .discarded (s.expected.length + s.zone.length) 0 0 _))
  exact hreport.trans rfl

theorem startNode (s : State) : SameInputs s s.startNode := by
  unfold State.startNode
  refine trans ?_ (.reTest _)
  exact rfl

theorem resumeNode (s : State) : SameInputs s s.resumeNode := by
  unfold State.resumeNode
  have hrun : SameInputs s { s with node := { s.node with state := .run, cause := .none } } := rfl
  exact (hrun.trans (ofRecords (.report ..))).trans (.reTest _)

theorem tick (s : State) : SameInputs s s.tick := by
  unfold SameInputs State.inputPart State.tick State.windowTick
  cases s.pos.windowTimer <;> rfl

theorem onExpiry {timer : Timer} {act : State → State} (h : ∀ x, RecordsOnly x (act x)) (s : State)
    (ht : s.onExpiry timer act = .next t) : SameInputs s t := by
  obtain rfl := Host.Outcome.next.inj ht
  exact .ite ((ofRecords (h s)).trans (.finish _)) (.refl s)

end State.SameInputs

/-! ### The blocks' parts of the management requests and of frames -/

open State (SameInputs RecordsOnly)

theorem State.trackNotice_records (i : Ident) (s : State) : RecordsOnly s (s.trackNotice i) := by
  unfold State.trackNotice
  split
  · exact .report ..
  · have hnew : RecordsOnly s { s with expected := s.expected ++ [Notice.mk i s.pos.P] } := rfl
    exact hnew.trans (.dropOverdue _)

theorem State.admission_records (q : Byte) (i : Ident) (s : State) : RecordsOnly s (s.admission q i).1 := by
  have hsync : RecordsOnly s (s.noticeInSync q i) :=
    RecordsOnly.trans (RecordsOnly.ite (.report ..) (.refl s)) rfl
  have hlocked : RecordsOnly s (s.noticeLocked q i) := by
    have hgap : RecordsOnly s (if 0 < s.credit.gapOf q then
        s.report .noticeGap (s.credit.gapOf q) i.tag i.order else s) := .ite (.report ..) (.refl s)
    exact .ite ((hgap.trans (.report .noticeBeyondCredit 1 i.tag i.order _)).trans rfl) (hgap.trans rfl)
  unfold State.admission
  split
  · exact hsync
  · split
    · exact .report ..
    · exact hlocked

theorem State.takeNotice_records (q : Byte) (i : Ident) (s : State) : RecordsOnly s (s.takeNotice q i) :=
  .ite (((State.admission_records q i s).trans (State.trackNotice_records i _)).trans (.reTest _))
    (State.admission_records q i s)

theorem State.offerDrop_records (p : Port) (s : State) : RecordsOnly s (s.offerDrop p) := rfl

theorem State.noticeFrameIn_records (payload : List Byte) (s : State) : RecordsOnly s (s.noticeFrameIn payload) := by
  unfold State.noticeFrameIn
  split
  · exact State.takeNotice_records ..
  · exact State.offerDrop_records ..

theorem State.takeSync_records (value : Byte) (s : State) : RecordsOnly s (s.takeSync value) := by
  have hcredit : RecordsOnly s { s with credit := s.credit.syncFrame value } := rfl
  exact (hcredit.trans (.claims _)).trans (.reTest _)

theorem State.takeLocked_records (g r : Byte) (s : State) : RecordsOnly s (s.takeLocked g r) := by
  have hreport : RecordsOnly s (s.reportResync g r) := .ite (.report ..) (.refl s)
  have hcredit : RecordsOnly (s.reportResync g r)
      { s.reportResync g r with credit := (s.reportResync g r).credit.lockedFrame g r } := rfl
  exact ((hreport.trans hcredit).trans (.claims _)).trans (.reTest _)

theorem State.creditFrameIn_records (payload : List Byte) (s : State) : RecordsOnly s (s.creditFrameIn payload) := by
  unfold State.creditFrameIn
  split
  · split
    · exact State.takeSync_records ..
    · exact State.takeLocked_records ..
    · exact State.offerDrop_records ..
  · exact State.offerDrop_records ..

theorem State.tagChar_records (c : TagChar) (s : State) : RecordsOnly s (s.tagChar c) := by
  have hawait : ∀ x : State, RecordsOnly x (x.tagCharAwait c) := fun x => .ite rfl (.refl x)
  have hvalid : ∀ (tag : BitVec 32) (x : State), RecordsOnly x (x.validRead tag) := fun tag x =>
    .ite (.ite rfl rfl) (.refl x)
  have hjudge : ∀ (got : List Byte) (x : State), RecordsOnly x (x.judgeRead got) := fun got x => by
    unfold State.judgeRead
    split
    · exact .ite (hvalid ..) rfl
    · exact rfl
  unfold State.tagChar
  split
  · exact hawait s
  · next got _ =>
    have hput : ∀ rx, RecordsOnly s (s.putTagRx rx) := fun _ => rfl
    refine .ite (((hput .awaitStart).trans rfl).trans (hawait _)) (.ite rfl (.ite rfl ?_))
    exact (hput .awaitStart).trans (hjudge ..)

theorem State.tagChars_records (cs : List TagChar) (s : State) : RecordsOnly s (cs.foldl State.tagChar s) := by
  induction cs generalizing s with
  | nil => exact .refl s
  | cons c cs ih => exact (State.tagChar_records c s).trans (ih _)

end Sys2Proof.Machine
end

section
/-! Every step keeps parameters, position and eyes sound. -/

namespace Sys2Proof.Belt

open Sys2Proof.Machine Sys2Proof.Claims Sys2Proof.Safety
open State (SameInputs RecordsOnly)

/-! ### The laws together -/

/-- The three laws of the inputs. -/
def InputsSound (s : State) : Prop := ParamsSound s ∧ PositionSound s ∧ EyesSound s

/-- What EyesSound asks of one eye while `waiting` stands in the queue. -/
def eyeSound (queue : List Instr) (i : EyeId) (x : Eye) : Prop :=
  x.blocked = x.since.isSome ∧ x.count < 15 ∧ x.waiting.length ≤ 1 ∧
    ∀ e ∈ x.waiting, e.blocked = x.blocked ∧ e.blockedSince.isSome = !e.blocked ∧ edgeCommand i e.blocked ∈ queue

theorem eyesSound_iff (s : State) : EyesSound s ↔
    (∀ i, eyeSound s.pending i (s.eyes.get i)) ∧ s.node.estopCount < 4 ∧
      s.jamAt.isSome = (s.eyes.get .entry).blocked :=
  and_congr_left' ⟨fun h i => h i (mem_eyeOrder i), fun h i _ => h i⟩

theorem inputsSound_congr {s t : State} (h : SameInputs s t) (hs : InputsSound s) : InputsSound t := by
  simp only [SameInputs, State.inputPart, InputPart.mk.injEq] at h
  obtain ⟨hparams, hsub, hS, hcomp, hinvalid, heyes, hestop, hjam, hpending⟩ := h
  unfold InputsSound ParamsSound PositionSound at hs ⊢
  rw [eyesSound_iff] at hs ⊢
  rw [hparams, hsub, hS, hcomp, hinvalid, heyes, hestop, hjam, hpending]
  exact hs

theorem inputsSound_of_records {s t : State} (h : RecordsOnly s t) (hs : InputsSound s) : InputsSound t :=
  inputsSound_congr (.ofRecords h) hs

theorem inputsSound_finish {s : State} (h : InputsSound s) : InputsSound s.finish :=
  inputsSound_congr (.finish s) h

theorem inputsSound_resetPart (s : State) : InputsSound s.resetPart := by
  refine ⟨?_, ?_, (eyesSound_iff _).mpr ⟨fun i => ?_, (by decide : (0 : Nat) < 4), rfl⟩⟩
  · exact (by decide : Params.default.inRange = true)
  · exact (by unfold PositionSound; decide : PositionSound State.reset)
  · have hreset : s.resetPart.eyes.get i = Eye.reset := by
      rcases i with _ | j | j | j
      · rfl
      all_goals cases j <;> rfl
    rw [hreset]
    exact ⟨rfl, by decide, by decide, nofun⟩

/-! ### Requests -/

/-- A request that keeps the laws whatever its payload. -/
def KeepsInputs (op : Handler) : Prop := ∀ p s, InputsSound s → InputsSound (op p s).1

theorem keepsInputs_of_same {op : Handler} (h : ∀ p s, SameInputs s (op p s).1) : KeepsInputs op :=
  fun p s => inputsSound_congr (h p s)

theorem encDiv_pos {p : Params} (h : p.inRange = true) : 1 ≤ p.encDiv := by
  have hd : p.encDiv ∈ [1, 2, 4, 8] := of_decide_eq_true ((inRange_iff p).mp h .encDiv)
  exact (by decide : ∀ n ∈ [1, 2, 4, 8], 1 ≤ n) p.encDiv hd

/-- A write of a pair that passes keeps the parameters in range, and the sub-count within ENC_DIV as it is set to 0. -/
theorem inputsSound_writePair {s : State} {x : Byte × Nat} (hx : ParamId.ofByte x.1 = none ∨
    ∃ p, ParamId.ofByte x.1 = some p ∧ p.valueOk x.2 = true) (hs : InputsSound s) : InputsSound (s.writePair x) := by
  obtain ⟨hp, hq, he⟩ := hs
  have hparams : (s.writePair x).params.inRange = true := by
    rw [writePair_params]
    rcases hx with hx | ⟨p, hx, hv⟩ <;> rw [hx]
    · exact hp
    · exact inRange_put hp hv
  have hframe := writePair_frame s x
  refine ⟨hparams, ?_, ?_⟩
  · have hpos : (s.writePair x).pos = { s.pos with sub := (s.writePair x).pos.sub } := by
      rw [hframe]
    have hd : x.1 ≠ 0x01 → (s.writePair x).params.encDiv = s.params.encDiv := fun hne => by
      rw [writePair_params]
      rcases hx with hx | ⟨p, hx, hv⟩ <;> rw [hx]
      exact get_put_of_ne (y := .encDiv) _ _ fun h => hne ((ofByte_eq_encDiv x.1).mp (h ▸ hx))
    have hpositive := encDiv_pos hparams
    unfold PositionSound at hq ⊢
    rw [hpos, writePair_sub]
    obtain ⟨hlow, hhigh, hrest⟩ := hq
    by_cases hne : x.1 = 0x01
    · rw [if_pos hne]
      exact ⟨by omega, by omega, hrest⟩
    · rw [if_neg hne, hd hne]
      exact ⟨hlow, hhigh, hrest⟩
  · rw [eyesSound_iff] at he ⊢
    rw [hframe]
    exact he

theorem inputsSound_writePairs {l : List (Byte × Nat)} {s : State} (hl : ∀ x ∈ l, ParamId.ofByte x.1 = none ∨
    ∃ p, ParamId.ofByte x.1 = some p ∧ p.valueOk x.2 = true) (hs : InputsSound s) :
    InputsSound (l.foldl State.writePair s) := by
  induction l generalizing s with
  | nil => exact hs
  | cons x l ih =>
    obtain ⟨hx, hl⟩ := List.forall_mem_cons.mp hl
    exact ih hl (inputsSound_writePair hx hs)

theorem keepsInputs_setParameters : KeepsInputs reqSetParameters := by
  intro p s hs
  unfold reqSetParameters
  split
  · split
    · exact hs
    · next hnone =>
      refine inputsSound_writePairs (fun x hx => .inr ?_) hs
      obtain ⟨id, hid, hv, _⟩ := pairRefusal_eq_none_iff.mp (List.findSome?_eq_none_iff.mp hnone x hx)
      exact ⟨id, hid, hv⟩
  · exact hs

theorem keepsInputs_inquire : KeepsInputs reqInquire := keepsInputs_of_same fun p s => by
  unfold reqInquire; split <;> exact .refl s

theorem keepsInputs_readParameters : KeepsInputs reqReadParameters := keepsInputs_of_same fun p s => by
  unfold reqReadParameters; repeat' split
  all_goals exact .refl s

theorem keepsInputs_routeWrite : KeepsInputs reqRouteWrite := keepsInputs_of_same fun p s => by
  unfold reqRouteWrite; repeat' split
  all_goals exact rfl

theorem keepsInputs_routeCommit : KeepsInputs reqRouteCommit := keepsInputs_of_same fun p s => by
  unfold reqRouteCommit; split <;> exact rfl

theorem keepsInputs_routeRead : KeepsInputs reqRouteRead := keepsInputs_of_same fun p s => by
  unfold reqRouteRead; repeat' split
  all_goals exact .refl s

theorem keepsInputs_spurNotice : KeepsInputs reqSpurNotice := keepsInputs_of_same fun p s => by
  unfold reqSpurNotice; repeat' split
  all_goals exact rfl

theorem keepsInputs_spurRestore : KeepsInputs reqSpurRestore := keepsInputs_of_same fun p s => by
  have hrestore : ∀ i, RecordsOnly s (s.restoreSpur i) := fun i =>
    .ite ((RecordsOnly.modSpur ..).trans (.reTest _)) (recordsOnly_loseFront ..)
  unfold reqSpurRestore
  split
  · split
    · exact .refl s
    · split
      · exact .ofRecords (hrestore _)
      · exact .refl s
  · exact .refl s

theorem keepsInputs_bayClear : KeepsInputs reqBayClear := keepsInputs_of_same fun p s => by
  unfold reqBayClear
  split
  · split
    · exact .refl s
    · split
      · exact .refl s
      · exact .ofRecords (.takeMany ..)
  · exact .refl s

theorem keepsInputs_listRead : KeepsInputs reqListRead := keepsInputs_of_same fun p s => by
  unfold reqListRead; repeat' split
  all_goals exact .refl s

theorem keepsInputs_counterSetup : KeepsInputs reqCounterSetup := keepsInputs_of_same fun p s => by
  unfold reqCounterSetup; repeat' split
  all_goals exact rfl

theorem keepsInputs_counterRead : KeepsInputs reqCounterRead := keepsInputs_of_same fun p s => by
  unfold reqCounterRead; split <;> exact .refl s

theorem keepsInputs_counterClear : KeepsInputs reqCounterClear := keepsInputs_of_same fun p s => by
  unfold reqCounterClear; repeat' split
  all_goals exact rfl

theorem keepsInputs_start : KeepsInputs reqStart := keepsInputs_of_same fun p s => by
  unfold reqStart
  split
  · exact .refl s
  split
  · exact .refl s
  split
  · exact .refl s
  split
  · exact .refl s
  · exact .startNode s

theorem keepsInputs_halt : KeepsInputs reqHalt := keepsInputs_of_same fun p s => by
  unfold reqHalt
  split
  · exact .refl s
  · split
    · exact .refl s
    · exact .refl s
    · exact (SameInputs.enterHalt ..).trans (.reTest _)

theorem keepsInputs_resume : KeepsInputs reqResume := keepsInputs_of_same fun p s => by
  unfold reqResume
  split
  · exact .refl s
  split
  · exact .refl s
  split
  · exact .refl s
  · exact .resumeNode s

theorem keepsInputs_config : KeepsInputs reqConfig := keepsInputs_of_same fun p s => by
  unfold reqConfig
  split
  · exact .refl s
  split
  · exact .refl s
  · exact .enterConfig s

theorem keepsInputs_nodeReset : KeepsInputs reqNodeReset := keepsInputs_of_same fun p s => by
  unfold reqNodeReset; split <;> exact .refl s

theorem keepsInputs_unknownKind (kind : Byte) : KeepsInputs (reqUnknownKind kind) :=
  keepsInputs_of_same fun _ s => .refl s

theorem keepsInputs_handlerOf (kind : Byte) : KeepsInputs (handlerOf kind) := by
  unfold handlerOf
  split
  · exact keepsInputs_inquire
  · exact keepsInputs_setParameters
  · exact keepsInputs_readParameters
  · exact keepsInputs_routeWrite
  · exact keepsInputs_routeCommit
  · exact keepsInputs_routeRead
  · exact keepsInputs_spurNotice
  · exact keepsInputs_spurRestore
  · exact keepsInputs_bayClear
  · exact keepsInputs_listRead
  · exact keepsInputs_counterSetup
  · exact keepsInputs_counterRead
  · exact keepsInputs_counterClear
  · exact keepsInputs_start
  · exact keepsInputs_halt
  · exact keepsInputs_resume
  · exact keepsInputs_config
  · exact keepsInputs_nodeReset
  · exact keepsInputs_unknownKind kind

theorem inputsSound_serve {op : Handler} (hop : KeepsInputs op) (kind : Byte) (q : Request) {s : State}
    (hs : InputsSound s) : InputsSound (s.serve op kind q) := by
  unfold State.serve
  split
  · exact inputsSound_of_records (State.offerDrop_records ..) hs
  · exact inputsSound_of_records (.modPort ..) (hop q.payload s hs)

theorem inputsSound_broadcastRequest {op : Handler} (hop : KeepsInputs op) (kind : Byte) (q : Request) {s : State}
    (hs : InputsSound s) : InputsSound (s.broadcastRequest op kind q) := by
  unfold State.broadcastRequest
  split
  · exact inputsSound_of_records (State.offerDrop_records ..) hs
  · refine inputsSound_of_records (.forward ..) ?_
    split
    · exact hop q.payload s hs
    · exact hs

theorem inputsSound_requestArrives {op : Handler} (hop : KeepsInputs op) (kind : Byte) (q : Request) {s : State}
    (hs : InputsSound s) : InputsSound (s.requestArrives op kind q) := by
  have ha := inputsSound_of_records (.frameArrives q.port s) hs
  unfold State.requestArrives
  simp only []
  split
  · exact inputsSound_of_records rfl ha
  · split
    · exact inputsSound_broadcastRequest hop kind q ha
    · exact inputsSound_serve hop kind q ha

/-! ### Frames and characters -/

theorem inputsSound_deliver (p : Port) (f : Frame) {s : State} (hs : InputsSound s) : InputsSound (s.deliver p f) := by
  have hop := keepsInputs_handlerOf f.kind
  have hdrop : ∀ q, InputsSound (s.offerDrop q) := fun q => inputsSound_of_records (State.offerDrop_records q s) hs
  unfold State.deliver
  simp only []
  split
  · split
    · exact inputsSound_serve hop _ _ hs
    · exact hdrop p
  split
  · cases p with
    | U => exact hdrop .U
    | D => exact inputsSound_of_records (.forward ..) hs
  split
  · cases p with
    | U =>
      simp only []
      split
      · exact inputsSound_of_records (State.noticeFrameIn_records ..) hs
      · exact hdrop .U
    | D =>
      simp only []
      split
      · exact inputsSound_of_records (State.creditFrameIn_records ..) hs
      · exact hdrop .D
  split
  · exact inputsSound_broadcastRequest hop _ _ hs
  · exact inputsSound_of_records (.forward ..) hs

theorem inputsSound_wholeFrame (p : Port) (f : Frame) {s : State} (hs : InputsSound s) :
    InputsSound (s.wholeFrame p f) := by
  have ha := inputsSound_of_records (.frameArrives p s) hs
  unfold State.wholeFrame
  simp only []
  split
  · exact inputsSound_of_records rfl ha
  · exact inputsSound_deliver p f ha

theorem inputsSound_lineChar (p : Port) (c : LineChar) {s : State} (hs : InputsSound s) :
    InputsSound (s.lineChar p c) := by
  have hrx := inputsSound_of_records (.modPort p (fun y => { y with rx := (rxChar (s.lines.get p).rx c).1 }) s) hs
  unfold State.lineChar
  simp only []
  split
  · exact hrx
  · exact inputsSound_of_records rfl hrx
  · exact inputsSound_finish (inputsSound_deliver _ _ hrx)

theorem inputsSound_lineChars (p : Port) (cs : List LineChar) {s : State} (hs : InputsSound s) :
    InputsSound (cs.foldl (State.lineChar p) s) := by
  induction cs generalizing s with
  | nil => exact hs
  | cons c cs ih => exact ih (inputsSound_lineChar p c hs)

/-! ### Encoder and speed samples -/

theorem inputsSound_withPos {s : State} {q : PositionUnit} (hq : PositionSound { s with pos := q })
    (hs : InputsSound s) : InputsSound { s with pos := q } :=
  ⟨hs.1, hq, hs.2.2⟩

theorem inputsSound_encoderSample (now : Bool × Bool) {s : State} (hs : InputsSound s) :
    InputsSound (s.encoderSample now) := by
  have hpair : InputsSound (withPair now s) := inputsSound_congr rfl hs
  have hpositive := encDiv_pos hs.1
  obtain ⟨hlow, hhigh, hS, hS', hcomp, hinvalid⟩ := hs.2.1
  cases h : s.pos.encPrev with
  | none => rw [encoderSample_first h]; exact hpair
  | some prev =>
    by_cases hf : (prev, now) ∈ forwardMoves
    · rw [encoderSample_forward h hf]
      unfold State.forwardTransition
      split
      · refine inputsSound_congr (.positionChange _) (inputsSound_withPos ?_ hpair)
        exact ⟨by simp only [PositionUnit.advance]; exact neg_neg_of_pos (by exact_mod_cast hpositive), by
          simp only [PositionUnit.advance]; exact_mod_cast hpositive, hS, hS', hcomp, hinvalid⟩
      · next hd =>
        refine inputsSound_withPos ⟨?_, not_le.mp hd, hS, hS', hcomp, hinvalid⟩ hpair
        exact hlow.trans (lt_add_one _)
    by_cases hr : (now, prev) ∈ forwardMoves
    · rw [encoderSample_reverse h hr]
      unfold State.reverseTransition
      split
      · refine inputsSound_congr (.positionChange _) (inputsSound_withPos ?_ hpair)
        exact ⟨by simp only [PositionUnit.stepBack]; exact neg_neg_of_pos (by exact_mod_cast hpositive), by
          simp only [PositionUnit.stepBack]; exact_mod_cast hpositive, hS, hS', hcomp, hinvalid⟩
      · next hd =>
        refine inputsSound_withPos ⟨not_le.mp hd, ?_, hS, hS', hcomp, hinvalid⟩ hpair
        exact (sub_one_lt _).trans hhigh
    by_cases he : prev = now
    · subst he; rw [encoderSample_same h]; exact hpair
    · have hcount : InputsSound (countedInvalid (withPair now s)) :=
        ⟨hs.1, ⟨hlow, hhigh, hS, hS', hcomp, Nat.min_le_left ..⟩, hs.2.2⟩
      rw [encoderSample_invalid h (transitionOf_of_invalid _ _ he hf hr), invalidTransition_eq]
      split
      · exact inputsSound_congr ((SameInputs.enterHalt ..).trans (.reTest _)) hcount
      · exact hcount

theorem inputsSound_takeSample {s : State} (hs : InputsSound s) : InputsSound s.takeSample := by
  obtain ⟨hp, ⟨hlow, hhigh, _⟩, he⟩ := hs
  have hsampled : InputsSound (sampled s) := by
    refine ⟨hp, ⟨hlow, hhigh, le_max_left .., ?_, fun k _ => ?_, Nat.zero_le _⟩, he⟩
    · exact max_le (by decide) (min_le_left ..)
    · rw [sampled, PositionUnit.sample, Tri.get_ofFn]
      exact leadCompensation_le ..
  refine inputsSound_of_records (recordsOnly_takeSample s) ?_
  unfold haltOnStall
  split
  · exact inputsSound_congr (.enterHalt ..) hsampled
  · exact hsampled

end Sys2Proof.Belt
end

section
/-! The commands and the idle step keep parameters, position and eyes sound (R10 to R12, R54, R153, R176). -/

namespace Sys2Proof.Belt

open Sys2Proof.Machine Sys2Proof.Claims Sys2Proof.Safety
open State (SameInputs RecordsOnly)

/-- An outcome that goes on to a state in which the laws of the inputs hold. -/
def GoesOnSound (r : Result) : Prop := ∃ t, r = .next t ∧ InputsSound t

/-! ### Which commands hand over an edge -/

/-- The eye and direction of the edge a command hands to its owner. -/
def edgeName : Instr → Option (EyeId × Bool)
  | .entryEyeBlocked => some (.entry, true)
  | .entryEyeClear => some (.entry, false)
  | .gateEyeBlocked j => some (.gate j, true)
  | .gateEyeClear j => some (.gate j, false)
  | .confirmEyeBlocked k => some (.confirm k, true)
  | .confirmEyeClear k => some (.confirm k, false)
  | .frontEyeBlocked k => some (.front k, true)
  | .frontEyeClear k => some (.front k, false)
  | _ => none

theorem edgeName_edgeCommand (i : EyeId) (b : Bool) : edgeName (edgeCommand i b) = some (i, b) := by
  cases i <;> cases b <;> rfl

theorem eq_edgeOf_of_edgeName {c : Instr} {i : EyeId} {b : Bool} (h : edgeName c = some (i, b)) : c = edgeOf i b := by
  unfold edgeName at h
  split at h <;> cases h <;> rfl

/-! ### Taking a command from the queue -/

/-- An eye stays sound where the command taken is not the one its waiting event stands for. -/
theorem eyeSound_pop {c : Instr} {rest : List Instr} {i : EyeId} {x : Eye}
    (hc : ∀ e ∈ x.waiting, edgeName c ≠ some (i, e.blocked)) (h : eyeSound (c :: rest) i x) : eyeSound rest i x := by
  obtain ⟨hsince, hcount, hone, hwaiting⟩ := h
  refine ⟨hsince, hcount, hone, fun e he => ?_⟩
  obtain ⟨hb, hclear, hmem⟩ := hwaiting e he
  refine ⟨hb, hclear, (List.mem_cons.mp hmem).resolve_left fun heq => hc e he ?_⟩
  rw [← heq, edgeName_edgeCommand]

theorem inputsSound_pop {s : State} {c : Instr} {rest : List Instr} (hp : s.pending = c :: rest)
    (hc : ∀ i, ∀ e ∈ (s.eyes.get i).waiting, edgeName c ≠ some (i, e.blocked)) (hs : InputsSound s) :
    InputsSound { s with pending := rest } := by
  obtain ⟨hparams, hpos, heyes⟩ := hs
  obtain ⟨heach, hrest⟩ := (eyesSound_iff s).mp heyes
  exact ⟨hparams, hpos, (eyesSound_iff _).mpr ⟨fun i => eyeSound_pop (hc i) (hp ▸ heach i), hrest⟩⟩

/-! ### Commands other than edges -/

theorem inputsSound_eStopChange {s : State} (active : Bool) (hs : InputsSound s) :
    InputsSound { s with node := { s.node with estopActive := active, estopCount := 0 } } := by
  obtain ⟨hparams, hpos, heyes⟩ := hs
  obtain ⟨heach, _, hjam⟩ := (eyesSound_iff s).mp heyes
  exact ⟨hparams, hpos, (eyesSound_iff _).mpr ⟨heach, (by decide : (0 : Nat) < 4), hjam⟩⟩

theorem goesOnSound_eStopAssertion {s : State} (hs : InputsSound s) : GoesOnSound (execEStopAssertion s) := by
  refine ⟨_, rfl, ?_⟩
  have hset := inputsSound_eStopChange true hs
  split
  · exact hs
  · split
    · exact inputsSound_finish (inputsSound_congr ((SameInputs.enterHalt ..).trans (.reTest _)) hset)
    · exact inputsSound_finish hset

theorem goesOnSound_eStopRelease {s : State} (hs : InputsSound s) : GoesOnSound (execEStopRelease s) := by
  refine ⟨_, rfl, ?_⟩
  split
  · exact inputsSound_finish (inputsSound_eStopChange false hs)
  · exact hs

theorem goesOnSound_frameSent (p : Port) {s : State} (hs : InputsSound s) : GoesOnSound (execFrameSent p s) := by
  refine ⟨_, rfl, ?_⟩
  split
  · exact hs
  · split
    · exact inputsSound_resetPart s
    · exact inputsSound_finish (inputsSound_of_records (.modPort ..) hs)

theorem goesOnSound_nodeResetTakesEffect (p : Port) {s : State} (hs : InputsSound s) :
    GoesOnSound (execNodeResetTakesEffect p s) := by
  refine ⟨_, rfl, ?_⟩
  split
  · exact inputsSound_resetPart s
  · exact hs

theorem goesOnSound_unknownKindRequest (kind : Byte) (q : Request) {s : State} (hs : InputsSound s) :
    GoesOnSound (execUnknownKindRequest kind q s) := by
  refine ⟨_, rfl, ?_⟩
  split
  · exact inputsSound_finish (inputsSound_requestArrives (keepsInputs_handlerOf kind) kind q hs)
  · exact inputsSound_finish (inputsSound_of_records (.trans (.frameArrives ..) (State.offerDrop_records ..)) hs)

/-- What a whole frame on a port brings keeps the laws where it acts on records alone. -/
theorem goesOnSound_frame {act : State → State} (hact : ∀ x, RecordsOnly x (act x)) (p : Port) {s : State}
    (hs : InputsSound s) : GoesOnSound (.next (act (s.frameArrives p)).finish) :=
  ⟨_, rfl, inputsSound_finish (inputsSound_of_records (.trans (.frameArrives p s) (hact _)) hs)⟩

theorem noticeArrives_records (payload : List Byte) (s : State) : RecordsOnly s (s.noticeArrives payload) :=
  .ite rfl (State.noticeFrameIn_records ..)

theorem goesOnSound_tagChars (cs : List TagChar) {s : State} (hs : InputsSound s) :
    GoesOnSound (.next (cs.foldl State.tagChar s).finish) :=
  ⟨_, rfl, inputsSound_finish (inputsSound_of_records (State.tagChars_records cs s) hs)⟩

theorem goesOnSound_onExpiry {timer : Timer} {act : State → State} (hact : ∀ x, RecordsOnly x (act x)) {s : State}
    (hs : InputsSound s) : GoesOnSound (s.onExpiry timer act) :=
  ⟨_, rfl, inputsSound_congr (.onExpiry hact s rfl) hs⟩

theorem chuteJammed_records (k : Ix) (s : State) : RecordsOnly s (s.chuteJammed k) :=
  .ite (.modBay ..) ((RecordsOnly.modBay ..).trans (.report ..))

/-- Every command that hands over no edge keeps the laws. -/
theorem goesOnSound_exec {c : Instr} (hc : edgeName c = none) {s : State} (hs : InputsSound s) :
    GoesOnSound (exec c s) := by
  have hreset : GoesOnSound (.next s.resetPart) := ⟨_, rfl, inputsSound_resetPart s⟩
  have hreq : ∀ {op : Handler}, KeepsInputs op → ∀ kind q, GoesOnSound (.next (s.requestArrives op kind q).finish) :=
    fun hop kind q => ⟨_, rfl, inputsSound_finish (inputsSound_requestArrives hop kind q hs)⟩
  have hwhole : ∀ p f, GoesOnSound (.next (s.wholeFrame p f).finish) := fun p f =>
    ⟨_, rfl, inputsSound_finish (inputsSound_wholeFrame p f hs)⟩
  cases c with
  | entryEyeBlocked | entryEyeClear | gateEyeBlocked | gateEyeClear | confirmEyeBlocked | confirmEyeClear
  | frontEyeBlocked | frontEyeClear => cases hc
  | powerOn | resetPin => exact hreset
  | inquire q => exact hreq keepsInputs_inquire _ q
  | setParameters q => exact hreq keepsInputs_setParameters _ q
  | readParameters q => exact hreq keepsInputs_readParameters _ q
  | routeWrite q => exact hreq keepsInputs_routeWrite _ q
  | routeCommit q => exact hreq keepsInputs_routeCommit _ q
  | routeRead q => exact hreq keepsInputs_routeRead _ q
  | spurNotice q => exact hreq keepsInputs_spurNotice _ q
  | spurRestore q => exact hreq keepsInputs_spurRestore _ q
  | bayClear q => exact hreq keepsInputs_bayClear _ q
  | listRead q => exact hreq keepsInputs_listRead _ q
  | counterSetup q => exact hreq keepsInputs_counterSetup _ q
  | counterRead q => exact hreq keepsInputs_counterRead _ q
  | counterClear q => exact hreq keepsInputs_counterClear _ q
  | start q => exact hreq keepsInputs_start _ q
  | halt q => exact hreq keepsInputs_halt _ q
  | resume q => exact hreq keepsInputs_resume _ q
  | config q => exact hreq keepsInputs_config _ q
  | nodeReset q => exact hreq keepsInputs_nodeReset _ q
  | nodeResetTakesEffect p => exact goesOnSound_nodeResetTakesEffect p hs
  | unknownKindRequest kind q => exact goesOnSound_unknownKindRequest kind q hs
  | notice payload => exact goesOnSound_frame (noticeArrives_records payload) .U hs
  | creditSync value => exact goesOnSound_frame (State.takeSync_records value) .D hs
  | creditLocked g r => exact goesOnSound_frame (State.takeLocked_records g r) .D hs
  | frameForward p f | frameDrop p f => exact hwhole p f
  | frameAbandon p cs => exact ⟨_, rfl, inputsSound_finish (inputsSound_lineChars p cs hs)⟩
  | tagRead cs | badTagRead cs => exact goesOnSound_tagChars cs hs
  | encoderTransition a b => exact ⟨_, rfl, inputsSound_finish (inputsSound_encoderSample (a, b) hs)⟩
  | eStopAssertion => exact goesOnSound_eStopAssertion hs
  | eStopRelease => exact goesOnSound_eStopRelease hs
  | speedSample => exact ⟨_, rfl, inputsSound_finish (inputsSound_takeSample hs)⟩
  | paddlePulseExpiry k | chimeExpiry k | lampStepExpiry k => exact goesOnSound_onExpiry (fun _ => .modBay ..) hs
  | gatePulseExpiry i => exact goesOnSound_onExpiry (fun _ => .modSpur ..) hs
  | releaseTimerExpiry i =>
    exact goesOnSound_onExpiry (fun _ => ((RecordsOnly.stickSpur ..).trans (.modSpur ..)).trans (.reTest _)) hs
  | chuteJamExpiry k => exact goesOnSound_onExpiry (chuteJammed_records k) hs
  | creditRefresh => exact ⟨_, rfl, inputsSound_finish (inputsSound_congr rfl hs)⟩
  | millisecondTick => exact ⟨_, rfl, inputsSound_finish (inputsSound_congr (.tick s) hs)⟩
  | frameSent p => exact goesOnSound_frameSent p hs

/-! ### Edges -/

theorem since_changedEye (b : Bool) (w : List Edge) (s : State) : (changedEye b w s).since.isSome = b := by
  cases b <;> rfl

theorem isSome_jamOf (b : Bool) (s : State) : (jamOf b s).isSome = b := by
  cases b <;> rfl

/-- The eye whose edge is taken: with at most one event waiting, none is left. -/
theorem eyeSound_edgeTaken {i : EyeId} {b : Bool} {s : State} {e : Edge} {u : State} (h : edgeTaken i b s e u)
    {queue : List Instr} (hx : eyeSound queue i (s.eyes.get i)) (rest : List Instr) :
    eyeSound rest i (u.eyes.get i) := by
  obtain ⟨hsince, hcount, hone, _⟩ := hx
  rcases h with ⟨w, hw, _, rfl⟩ | ⟨_, _, _, rfl⟩
  · obtain rfl : w = [] := List.eq_nil_of_length_eq_zero (by simpa [hw] using hone)
    simp only [EyeUnit.get_put_self]
    exact ⟨hsince, hcount, Nat.zero_le 1, nofun⟩
  · simp only [withEdge, EyeUnit.get_put_self]
    exact ⟨(since_changedEye ..).symm, Nat.zero_lt_succ 14, Nat.zero_le 1, nofun⟩

theorem isSome_jamAt_edgeTaken {i : EyeId} {b : Bool} {s : State} {e : Edge} {u : State} (h : edgeTaken i b s e u)
    (hjam : s.jamAt.isSome = (s.eyes.get .entry).blocked) : u.jamAt.isSome = (u.eyes.get .entry).blocked := by
  by_cases hi : i = .entry
  · subst hi
    rcases h with ⟨w, _, _, rfl⟩ | ⟨_, _, _, rfl⟩
    · simp only [EyeUnit.get_put_self]; exact hjam
    · simp only [withEdge, EyeUnit.get_put_self, if_true]; exact isSome_jamOf b s
  · rw [edgeTaken_eyes_of_ne h (Ne.symm hi), ← hjam]
    rcases h with ⟨w, _, _, rfl⟩ | ⟨_, _, _, rfl⟩
    · rfl
    · simp only [withEdge, if_neg hi]

theorem inputsSound_edgeTaken {i : EyeId} {b : Bool} {s : State} {rest : List Instr} (hp : s.pending = edgeOf i b :: rest)
    {e : Edge} {u : State} (h : edgeTaken i b { s with pending := rest } e u) (hs : InputsSound s) : InputsSound u := by
  obtain ⟨hparams, hpos, heyes⟩ := hs
  obtain ⟨heach, hestop, hjam⟩ := (eyesSound_iff s).mp heyes
  have hframe := edgeTaken_frame h
  refine ⟨?_, ?_, (eyesSound_iff u).mpr ⟨fun j => ?_, ?_, isSome_jamAt_edgeTaken h hjam⟩⟩
  · rw [hframe]; exact hparams
  · rw [hframe]; exact hpos
  · have hrest : u.pending = rest := by rw [hframe]
    rw [hrest]
    by_cases hj : j = i
    · subst hj; exact eyeSound_edgeTaken h (heach j) rest
    · rw [edgeTaken_eyes_of_ne h hj]
      refine eyeSound_pop (c := edgeOf i b) (fun e _ heq => hj ?_) (hp ▸ heach j)
      rw [edgeOf_eq_edgeCommand, edgeName_edgeCommand] at heq
      exact (congrArg Prod.fst (Option.some.inj heq)).symm
  · rw [hframe]; exact hestop

/-- Where the command names no edge, a waiting event of its eye has the other direction, and its command is still queued. -/
theorem inputsSound_noEdge {i : EyeId} {b : Bool} {s : State} {rest : List Instr} (hp : s.pending = edgeOf i b :: rest)
    (h : noEdge i b s) (hs : InputsSound s) : InputsSound { s with pending := rest } := by
  refine inputsSound_pop hp (fun j e he heq => ?_) hs
  rw [edgeOf_eq_edgeCommand, edgeName_edgeCommand] at heq
  obtain ⟨rfl, rfl⟩ := Prod.mk.inj (Option.some.inj heq)
  obtain ⟨heach, _⟩ := (eyesSound_iff s).mp hs.2.2
  obtain ⟨_, _, _, hwaiting⟩ := heach i
  have hfiltered := (hwaiting e he).1
  rcases h with ⟨e', w, hw, hb⟩ | ⟨hw, _⟩
  · exact hb ((hwaiting e' (hw ▸ List.mem_cons_self)).1.trans hfiltered.symm)
  · rw [hw] at he; cases he

theorem goesOnSound_edge {i : EyeId} {b : Bool} {s : State} {rest : List Instr} (hp : s.pending = edgeOf i b :: rest)
    (hs : InputsSound s) : GoesOnSound (exec (edgeOf i b) { s with pending := rest }) := by
  by_cases h : noEdge i b { s with pending := rest }
  · refine ⟨_, exec_edgeOf .., ?_⟩
    rw [edge_of_noEdge h]
    exact inputsSound_noEdge hp h hs
  · obtain ⟨e, u, hu⟩ := exists_edgeTaken h
    refine ⟨_, exec_of_edgeTaken hu, inputsSound_finish ?_⟩
    exact inputsSound_of_records (recordsOnly_ownerOf i b e u) (inputsSound_edgeTaken hp hu hs)

/-! ### The idle step -/

theorem filterSetting_le {p : Params} (h : p.inRange = true) (i : EyeId) : filterSetting p i ≤ 15 := by
  have hok := (inRange_iff p).mp h
  cases i with
  | entry => exact (of_decide_eq_true (hok .entryFilter)).2
  | gate j => exact (of_decide_eq_true (hok .gateFilter)).2
  | confirm k => exact (of_decide_eq_true (hok .bayFilter)).2
  | front k => exact (of_decide_eq_true (hok .bayFilter)).2

/-- On an empty queue no edge event waits. -/
theorem waiting_of_idle {i : EyeId} {x : Eye} (h : eyeSound [] i x) : x.waiting = [] :=
  List.eq_nil_iff_forall_not_mem.mpr fun e he => List.not_mem_nil (h.2.2.2 e he).2.2

theorem edgeCommand_mem_of_accepts {s : State} {i : EyeId} (h : accepts s i = true) :
    edgeCommand i (beam s.inputs i) ∈ edgeCommands s eyeOrder := by
  refine List.mem_flatMap.mpr ⟨i, mem_eyeOrder i, ?_⟩
  rw [if_pos h, edgeOf_eq_edgeCommand]
  exact List.mem_singleton_self _

theorem sampledEye_blocked_of_not_accepts {s : State} {i : EyeId} (h : accepts s i = false) :
    (sampledEye s i).blocked = (s.eyes.get i).blocked := by
  unfold sampledEye
  split
  · rfl
  · next hb =>
    rw [if_neg fun hn => ne_true_of_eq_false h (accepts_iff.mpr ⟨hb, hn⟩)]

theorem eyeSound_sampledEye {s : State} {i : EyeId} (hparams : ParamsSound s) (hx : eyeSound [] i (s.eyes.get i))
    {queue : List Instr} (hqueue : ∀ c ∈ edgeCommands s eyeOrder, c ∈ queue) : eyeSound queue i (sampledEye s i) := by
  have hw := waiting_of_idle hx
  obtain ⟨hsince, _, _, _⟩ := hx
  have hnone : ∀ e ∈ (s.eyes.get i).waiting, e.blocked = (s.eyes.get i).blocked ∧
      e.blockedSince.isSome = !e.blocked ∧ edgeCommand i e.blocked ∈ queue := by rw [hw]; exact nofun
  by_cases hb : beam s.inputs i = (s.eyes.get i).blocked
  · rw [sampledEye, if_pos hb]
    exact ⟨hsince, Nat.zero_lt_succ 14, by rw [hw]; exact Nat.zero_le 1, hnone⟩
  by_cases hn : filterSetting s.params i ≤ (s.eyes.get i).count + 1
  · have ha : accepts s i = true := accepts_iff.mpr ⟨hb, hn⟩
    rw [sampledEye_of_accepts ha, hw]
    refine ⟨(since_changedEye ..).symm, Nat.zero_lt_succ 14, le_refl 1, fun e he => ?_⟩
    obtain rfl := List.mem_singleton.mp he
    refine ⟨rfl, ?_, hqueue _ (edgeCommand_mem_of_accepts ha)⟩
    rw [hsince] at hb
    cases hbeam : beam s.inputs i with
    | true => rfl
    | false => simpa [edgeEvent, hbeam, Option.isSome_iff_ne_none] using hb
  · rw [sampledEye, if_neg hb, if_neg hn]
    have hmax := filterSetting_le hparams i
    have hcount : (s.eyes.get i).count + 1 < 15 := by omega
    exact ⟨hsince, hcount, by rw [hw]; exact Nat.zero_le 1, hnone⟩

theorem inputsSound_samplePeriod {s : State} (hidle : s.pending = []) (hs : InputsSound s) :
    InputsSound s.samplePeriod := by
  obtain ⟨hparams, hpos, heyes⟩ := hs
  obtain ⟨heach, hestop, hjam⟩ := (eyesSound_iff s).mp heyes
  have hframe := samplePeriod_frame s
  refine ⟨?_, ?_, (eyesSound_iff _).mpr ⟨fun i => ?_, ?_, ?_⟩⟩
  · rw [hframe]; exact hparams
  · rw [hframe]; exact hpos
  · rw [samplePeriod_eyes_get]
    refine eyeSound_sampledEye hparams (hidle ▸ heach i) fun c hc => ?_
    rw [samplePeriod_pending]
    exact List.mem_append_right _ hc
  · have hcount : s.samplePeriod.node.estopCount = s.sampleEstop.1 := by rw [hframe]; rfl
    rw [hcount, sampleEstop_fst]
    split <;> omega
  · rw [samplePeriod_jamAt, samplePeriod_eyes_get]
    cases ha : accepts s .entry with
    | true => rw [sampledEye_of_accepts ha]; exact isSome_jamOf ..
    | false =>
      exact hjam.trans (sampledEye_blocked_of_not_accepts ha).symm

/-! ### Every step -/

theorem goesOnSound_step {s : State} (hs : InputsSound s) : GoesOnSound (step s) := by
  cases hp : s.pending with
  | nil => exact ⟨_, step_of_idle hp, inputsSound_samplePeriod hp hs⟩
  | cons c rest =>
    have hstep : step s = exec c { s with pending := rest } := by rw [step, hp]
    rw [hstep]
    cases hc : edgeName c with
    | none => exact goesOnSound_exec hc (inputsSound_pop hp (fun i e _ => by rw [hc]; exact nofun) hs)
    | some x =>
      obtain rfl := eq_edgeOf_of_edgeName hc
      exact goesOnSound_edge hp hs

/-- Settles O51: on an empty queue the sample period, else the command taken keeps the laws of parameters, position and
eyes; the command of an event that waits leaves the queue only as the event is taken. -/
theorem stepsKeepInputsSound : Obligations.StepsKeepInputsSound := by
  unfold Obligations.StepsKeepInputsSound
  intro s t hparams hpos heyes hstep
  obtain ⟨u, hu, hsound⟩ := goesOnSound_step ⟨hparams, hpos, heyes⟩
  obtain rfl := Host.Outcome.next.inj (hu.symm.trans hstep)
  exact hsound

end Sys2Proof.Belt
end

section
/-! The totes a state holds, and the moves by which events change them (R24 to R36, R61 to R64, R121 to R127). -/

namespace Sys2Proof.Totes

open Sys2Proof.Machine

/-! ### What a state holds of totes -/

/-- The lane side of a bay: its landing list and its ready counts (R32, R121). -/
structure Lane where
  landing : List LandingRec
  ready : Nat
  rushReady : Nat

/-- The totes of a state, without their tracking, and the tables that rule them. -/
structure Records where
  expected : List Ident
  zone : List Ident
  spur : Ix → List Ident
  lane : Ix → Lane
  groups : List GroupEntry
  active : List RouteEntry
  standby : List RouteEntry
  address : Nat

def laneOf (b : Bay) : Lane := ⟨b.landing, b.ready, b.rushReady⟩

def spurIdents (x : Spur) : List Ident := x.list.map SpurRec.ident

def recordsOf (s : State) : Records where
  expected := s.expected.map Notice.ident
  zone := s.zone.map Tote.ident
  spur i := spurIdents (s.spurs.get i)
  lane k := laneOf (s.bays.get k)
  groups := s.groups
  active := s.routes.active
  standby := s.routes.standby
  address := s.node.address

/-! ### Changes of one lane -/

def Lane.land (x : LandingRec) (l : Lane) : Lane := { l with landing := l.landing ++ [x] }

def Lane.next (l : Lane) : Lane := { l with landing := l.landing.tail }

/-- One ready order more (R122, R125). -/
def Lane.call (c : Cls) (l : Lane) : Lane :=
  { l with ready := l.ready + 1, rushReady := l.rushReady + if c.isRush then 1 else 0 }

/-- One ready order fewer (R126, R127). -/
def Lane.collect (c : Cls) (l : Lane) : Lane :=
  { l with ready := l.ready - 1, rushReady := l.rushReady - if c.isRush then 1 else 0 }

namespace Records

def atLane (k : Ix) (f : Lane → Lane) (r : Records) : Records := { r with lane := Function.update r.lane k (f (r.lane k)) }

def setSpur (i : Ix) (l : List Ident) (r : Records) : Records := { r with spur := Function.update r.spur i l }

/-- The tags of the expected list and of the three spur lists (R34). -/
def tags (r : Records) : List (BitVec 32) :=
  r.expected.map Ident.tag ++ Ix.all.flatMap fun i => (r.spur i).map Ident.tag

/-- A tote lands as a member of the entry e of its group (R125). -/
def countMember (k : Ix) (x : LandingRec) (e : GroupEntry) (r : Records) : Records :=
  { r.atLane k (Lane.land x) with
    groups := replaceGroup (e.land k x.cls) r.groups
    lane := fun j =>
      if (e.land k x.cls).landed = e.count ∧ 0 < (e.land k x.cls).untaken.get j then
        ((r.atLane k (Lane.land x)).lane j).call (e.land k x.cls).cls
      else (r.atLane k (Lane.land x)).lane j }

/-- The group table after a member of the entry e is taken from bay k (R127). -/
def groupsWithout (k : Ix) (e : GroupEntry) (gs : List GroupEntry) : List GroupEntry :=
  if (e.take k).taken = e.count then (replaceGroup (e.take k) gs).filter fun x => decide (x.id ≠ e.id)
  else replaceGroup (e.take k) gs

/-- The front tote of lane k is taken, a member of the entry e of its group (R127). -/
def takeMember (k : Ix) (e : GroupEntry) (r : Records) : Records :=
  { r.atLane k fun l => if e.ready && decide ((e.take k).untaken.get k = 0) then l.next.collect e.cls else l.next with
    groups := groupsWithout k e r.groups }

end Records

/-- One change of the totes a state holds. -/
inductive Move : Records → Records → Prop
  /-- Announced totes and totes of the zone list leave. -/
  | shrink {r : Records} {expected zone : List Ident} {spur : Ix → List Ident} (hexpected : expected.Sublist r.expected)
      (hzone : zone.Sublist r.zone) (hspur : ∀ i, (spur i).Sublist (r.spur i)) :
      Move r { r with expected := expected, zone := zone, spur := spur }
  /-- A NOTICE is taken (R39). -/
  | notice {r : Records} {d : Ident} (room : r.expected.length < 16) (new : d.tag ≠ 0 → d.tag ∉ r.tags)
      (sound : Safety.identSound d) : Move r { r with expected := r.expected ++ [d] }
  /-- A SPUR NOTICE is taken (R100). -/
  | spurNotice {r : Records} {i : Ix} {d : Ident} (room : (r.spur i).length < 6) (new : d.tag ≠ 0 → d.tag ∉ r.tags)
      (sound : ∀ g ∈ d.group, Safety.groupSound g) (origin : d.origin = r.address) :
      Move r (r.setSpur i (r.spur i ++ [d]))
  /-- A tote stands at the gate of a spur with no record (R104). -/
  | spurStray {r : Records} {i : Ix} (none : r.spur i = []) : Move r (r.setSpur i [strayIdent 0 r.address])
  /-- A tote enters the zone list, as announced or as a stray (R46, R47, R112). -/
  | enter {r : Records} {d : Ident} {zone : List Ident} (room : r.zone.length < 24)
      (source : d ∈ r.expected ∨ (∃ i, d ∈ r.spur i) ∨ ∃ tag, d = strayIdent tag r.address)
      (perm : zone.Perm (d :: r.zone)) : Move r { r with zone := zone }
  /-- A tote lands as an order of its own (R122). -/
  | landSingle {r : Records} {k : Ix} {x : LandingRec} (room : (r.lane k).landing.length < 8) (single : x.group = none)
      (expected : x.unexpected = false) : Move r (r.atLane k fun l => (l.land x).call x.cls)
  /-- A tote lands that none was expected for (R89). -/
  | landUnexpected {r : Records} {k : Ix} (room : (r.lane k).landing.length < 8) :
      Move r (r.atLane k (Lane.land unexpectedRec))
  /-- The first tote of a group in the zone list opens its entry (R123). -/
  | openGroup {r : Records} {d : Ident} {g : GroupPart} (room : r.groups.length < 8) (source : d ∈ r.zone)
      (part : d.group = some g) (new : ∀ e ∈ r.groups, e.id ≠ g.id) :
      Move r { r with groups := r.groups ++ [GroupEntry.new g] }
  /-- A tote of the zone list lands as a member of a group with an entry (R125). -/
  | landMember {r : Records} {k : Ix} {d : Ident} {x : LandingRec} {g : GroupPart} {e : GroupEntry}
      (room : (r.lane k).landing.length < 8) (source : d ∈ r.zone) (part : d.group = some g) (same : x.group = some g)
      (expected : x.unexpected = false) (entry : e ∈ r.groups) (id : e.id = g.id)
      (wanted : e.landed ≠ e.count ∨ e = GroupEntry.new g) :
      Move r (r.countMember k x e)
  /-- A tote is taken that the Assembly Unit does not count (R94, R126, R127). -/
  | takeUncounted {r : Records} {k : Ix} {x : LandingRec} {rest : List LandingRec} (front : (r.lane k).landing = x :: rest)
      (uncounted : x.unexpected = true ∨ ∃ g, x.group = some g ∧ ∀ e ∈ r.groups, e.id ≠ g.id) : Move r (r.atLane k Lane.next)
  /-- A tote that was an order of its own is taken (R126). -/
  | takeSingle {r : Records} {k : Ix} {x : LandingRec} {rest : List LandingRec} (front : (r.lane k).landing = x :: rest)
      (single : x.group = none) (expected : x.unexpected = false) :
      Move r (r.atLane k fun l => l.next.collect x.cls)
  /-- A member of a group with an entry is taken (R127). -/
  | takeMember {r : Records} {k : Ix} {x : LandingRec} {rest : List LandingRec} {g : GroupPart} {e : GroupEntry}
      (front : (r.lane k).landing = x :: rest) (part : x.group = some g) (expected : x.unexpected = false)
      (entry : e ∈ r.groups) (id : e.id = g.id) : Move r (r.takeMember k e)
  /-- Entries of the standby bank are written (R63). -/
  | writeRoutes {r : Records} {first : Nat} {es : List RouteEntry} (fits : first + es.length ≤ 128)
      (pass : first = 0 → es.head? = some .pass) : Move r { r with standby := replaceFrom first es r.standby }
  /-- The standby bank becomes the active one (R64). -/
  | commitRoutes {r : Records} : Move r { r with active := r.standby }
  /-- A reset with the address read anew (R161, R165). -/
  | reset {r : Records} {address : Nat} (one : 1 ≤ address) (max : address ≤ 61) :
      Move r { recordsOf State.reset with address := address }

/-- The totes t holds come from those of s by moves. -/
def Follows (s t : State) : Prop := Relation.ReflTransGen Move (recordsOf s) (recordsOf t)

theorem invariant_of_moves {p : Records → Prop} (h : ∀ {r r' : Records}, Move r r' → p r → p r') {r r' : Records}
    (hmoves : Relation.ReflTransGen Move r r') (hr : p r) : p r' := by
  induction hmoves with
  | refl => exact hr
  | tail _ hmove ih => exact h hmove ih

end Sys2Proof.Totes
end

section
/-! The acts that leave the totes of a state as they are. -/

namespace Sys2Proof.Totes

open Sys2Proof.Machine

/-! ### Changes of one bay or spur -/

theorem recordsOf_eq {s t : State} (expected : t.expected = s.expected) (zone : t.zone.map Tote.ident = s.zone.map Tote.ident)
    (spurs : ∀ i, spurIdents (t.spurs.get i) = spurIdents (s.spurs.get i))
    (bays : ∀ k, laneOf (t.bays.get k) = laneOf (s.bays.get k)) (groups : t.groups = s.groups)
    (routes : t.routes = s.routes) (node : t.node.address = s.node.address) : recordsOf t = recordsOf s := by
  unfold recordsOf
  simp only [expected, zone, spurs, bays, groups, routes, node]

theorem recordsOf_modBay (k : Ix) (f : Bay → Bay) (s : State) :
    recordsOf (s.modBay k f) = (recordsOf s).atLane k fun _ => laneOf (f (s.bays.get k)) := by
  have hlane : (fun j => laneOf ((s.modBay k f).bays.get j)) =
      Function.update (fun j => laneOf (s.bays.get j)) k (laneOf (f (s.bays.get k))) := by
    funext j
    rw [State.modBay_bays_get, Function.update_apply]
    split
    · next h => rw [h]
    · rfl
  unfold recordsOf Records.atLane
  rw [hlane]
  rfl

/-- A change of a bay that acts on its lane as F does. -/
theorem recordsOf_modBay_of {k : Ix} {f : Bay → Bay} {F : Lane → Lane} (h : ∀ b, laneOf (f b) = F (laneOf b)) (s : State) :
    recordsOf (s.modBay k f) = (recordsOf s).atLane k F := by
  rw [recordsOf_modBay]
  unfold Records.atLane
  simp only [h]
  rfl

theorem recordsOf_modBay_same {k : Ix} {f : Bay → Bay} {s : State} (h : ∀ b, laneOf (f b) = laneOf b) :
    recordsOf (s.modBay k f) = recordsOf s :=
  recordsOf_eq rfl rfl (fun _ => rfl)
    (fun j => by rw [State.modBay_bays_get]; split <;> simp only [h]) rfl rfl rfl

theorem recordsOf_modSpur (i : Ix) (f : Spur → Spur) (s : State) :
    recordsOf (s.modSpur i f) = (recordsOf s).setSpur i (spurIdents (f (s.spurs.get i))) := by
  have hspur : (fun j => spurIdents ((s.modSpur i f).spurs.get j)) =
      Function.update (fun j => spurIdents (s.spurs.get j)) i (spurIdents (f (s.spurs.get i))) := by
    funext j
    rw [State.modSpur_spurs_get, Function.update_apply]
    split
    · next h => rw [h]
    · rfl
  unfold recordsOf Records.setSpur
  rw [hspur]
  rfl

theorem recordsOf_modSpur_same {i : Ix} {f : Spur → Spur} {s : State} (h : ∀ x, spurIdents (f x) = spurIdents x) :
    recordsOf (s.modSpur i f) = recordsOf s :=
  recordsOf_eq rfl rfl (fun j => by rw [State.modSpur_spurs_get]; split <;> simp only [h]) (fun _ => rfl) rfl rfl rfl

/-! ### Reports, events, timers, reservations -/

@[simp] theorem recordsOf_report (k : ReportKind) (d : Nat) (tag : BitVec 32) (order : BitVec 24) (s : State) :
    recordsOf (s.report k d tag order) = recordsOf s := by
  rw [State.report_frame]; rfl

@[simp] theorem recordsOf_offer (e : EventCode) (k : Option Cls) (q : Option Nat) (s : State) :
    recordsOf (s.offer e k q) = recordsOf s := rfl

@[simp] theorem recordsOf_modPort (p : Port) (f : LinePort → LinePort) (s : State) :
    recordsOf (s.modPort p f) = recordsOf s := rfl

@[simp] theorem recordsOf_release (k : Ix) (s : State) : recordsOf (s.release k) = recordsOf s :=
  recordsOf_modBay_same fun _ => rfl

@[simp] theorem recordsOf_releaseDecision (d : Decision) (s : State) : recordsOf (s.releaseDecision d) = recordsOf s := by
  cases d with
  | pass => rfl
  | land k => exact recordsOf_release k s

@[simp] theorem recordsOf_reserve (d : Decision) (s : State) : recordsOf (s.reserve d) = recordsOf s := by
  cases d with
  | pass => rfl
  | land k => exact recordsOf_modBay_same fun _ => rfl

@[simp] theorem recordsOf_expireTag (s : State) : recordsOf s.expireTag = recordsOf s := by
  rw [State.expireTag_frame]; rfl

@[simp] theorem recordsOf_takeTag (s : State) : recordsOf s.takeTag.2 = recordsOf s := by
  unfold State.takeTag; split <;> rfl

@[simp] theorem recordsOf_reportMissing (d : Nat) (ns : List Notice) (s : State) :
    recordsOf (s.reportMissing d ns) = recordsOf s := by
  rw [State.reportMissing_frame]; rfl

@[simp] theorem recordsOf_missEffects (c : MissCause) (k : Ix) (i : Ident) (s : State) :
    recordsOf (s.missEffects c k i) = recordsOf s := by
  simp [State.missEffects]

@[simp] theorem recordsOf_stickSpur (i : Ix) (d : Nat) (s : State) : recordsOf (s.stickSpur i d) = recordsOf s := by
  have hblocked : ∀ x : State, recordsOf (x.modSpur i fun y =>
      { y with st := .blocked, gateTimer := none, releaseTimer := none }) = recordsOf x := fun x =>
    recordsOf_modSpur_same fun _ => rfl
  unfold State.stickSpur
  split
  · simp only []
    split <;> simp [hblocked]
  · rfl

theorem recordsOf_cutPulses (s : State) : recordsOf { s with bays := s.bays.map Bay.cutPulse } = recordsOf s :=
  recordsOf_eq rfl rfl (fun _ => rfl) (fun k => by simp only [Tri.get_map]; rfl) rfl rfl rfl

@[simp] theorem recordsOf_enterHalt (c : HaltCause) (s : State) : recordsOf (s.enterHalt c) = recordsOf s := by
  unfold State.enterHalt
  split
  · simp only [recordsOf_stickSpur, recordsOf_cutPulses, recordsOf_report]
    rfl
  · rfl

@[simp] theorem recordsOf_jamTest (s : State) : recordsOf s.jamTest = recordsOf s := by
  unfold State.jamTest; split <;> simp

@[simp] theorem recordsOf_frameArrives (p : Port) (s : State) : recordsOf (s.frameArrives p) = recordsOf s := by
  rw [State.frameArrives_frame]; rfl

@[simp] theorem recordsOf_forward (p : Port) (f : Frame) (s : State) : recordsOf (s.forward p f) = recordsOf s := by
  rw [State.forward_frame]; rfl

@[simp] theorem recordsOf_finish (s : State) : recordsOf s.finish = recordsOf s := by
  rw [State.finish_frame]; rfl

@[simp] theorem recordsOf_admission (q : Byte) (i : Ident) (s : State) : recordsOf (s.admission q i).1 = recordsOf s := by
  have hsync : recordsOf (s.noticeInSync q i) = recordsOf s := by
    refine Eq.trans (b := recordsOf (if s.credit.o = 0 then s.report .noticeBeyondCredit 0 i.tag i.order else s)) rfl ?_
    split <;> simp
  have hlocked : recordsOf (s.noticeLocked q i) = recordsOf s := by
    have hgap : recordsOf (if 0 < s.credit.gapOf q then
        s.report .noticeGap (s.credit.gapOf q) i.tag i.order else s) = recordsOf s := by split <;> simp
    unfold State.noticeLocked
    simp only []
    split
    · exact (recordsOf_report .noticeBeyondCredit 1 i.tag i.order _).trans hgap
    · exact hgap
  unfold State.admission
  split
  · exact hsync
  · split
    · exact recordsOf_report ..
    · exact hlocked

/-! ### The zone list's tests -/

@[simp] theorem recordsOf_testArmed (t : Tote) (s : State) : recordsOf (s.testArmed t).2 = recordsOf s := by
  have hfire : ∀ k, recordsOf (s.firePaddle k) = recordsOf s := fun k => recordsOf_modBay_same fun _ => rfl
  unfold State.testArmed
  repeat' split
  all_goals simp [hfire]

@[simp] theorem ident_testArmed (t : Tote) (s : State) : (s.testArmed t).1.ident = t.ident := by
  unfold State.testArmed
  repeat' split
  all_goals rfl

@[simp] theorem recordsOf_testDivert (t : Tote) (s : State) : recordsOf (s.testDivert t).2 = recordsOf s := by
  unfold State.testDivert
  split
  · split <;> simp
  · exact recordsOf_testArmed t s

@[simp] theorem ident_testDivert (t : Tote) (s : State) : (s.testDivert t).1.ident = t.ident := by
  unfold State.testDivert
  split
  · split <;> rfl
  · exact ident_testArmed t s

theorem recordsOf_walkZone {test : Tote → State → Tote × State} (hrecords : ∀ t s, recordsOf (test t s).2 = recordsOf s)
    (hident : ∀ t s, (test t s).1.ident = t.ident) (l : List Tote) (s : State) :
    recordsOf (walkZone test l s).2 = recordsOf s ∧ (walkZone test l s).1.map Tote.ident = l.map Tote.ident := by
  induction l generalizing s with
  | nil => exact ⟨rfl, rfl⟩
  | cons t l ih =>
    obtain ⟨hstate, hlist⟩ := ih (test t s).2
    exact ⟨hstate.trans (hrecords t s), congrArg₂ List.cons (hident t s) hlist⟩

/-- A state with another zone list holds the same totes beside it. -/
theorem recordsOf_withZone (z : List Tote) (s : State) :
    recordsOf { s with zone := z } = { recordsOf s with zone := z.map Tote.ident } := rfl

theorem recordsOf_divertTests {test : Tote → State → Tote × State} (hrecords : ∀ t s, recordsOf (test t s).2 = recordsOf s)
    (hident : ∀ t s, (test t s).1.ident = t.ident) (s : State) : recordsOf (s.divertTests test) = recordsOf s := by
  obtain ⟨hstate, hlist⟩ := recordsOf_walkZone hrecords hident s.zone s
  unfold State.divertTests
  simp only [recordsOf_withZone, hstate, hlist]
  rfl

theorem claimWalk_idents (P : Pos) (hold : Nat) (l : List Tote) (c : CreditUnit) :
    (claimWalk P hold l c).1.map Tote.ident = l.map Tote.ident := by
  induction l generalizing c with
  | nil => rfl
  | cons t l ih =>
    unfold claimWalk
    repeat' split
    all_goals simp [ih]

@[simp] theorem recordsOf_claims (s : State) : recordsOf s.claims = recordsOf s := by
  unfold State.claims
  split
  · rfl
  · exact recordsOf_eq rfl (claimWalk_idents ..) (fun _ => rfl) (fun _ => rfl) rfl rfl rfl

/-! ### Merges and grants -/

@[simp] theorem recordsOf_routeEffects (i : Ident) (stray : Bool) (o : RouteOutcome) (s : State) :
    recordsOf (s.routeEffects i stray o) = recordsOf s := by
  unfold State.routeEffects
  repeat' split
  all_goals simp

@[simp] theorem recordsOf_grantSpur (i : Ix) (s : State) : recordsOf (s.grantSpur i) = recordsOf s := by
  unfold State.grantSpur
  split
  · rfl
  · refine (recordsOf_modSpur_same fun _ => ?_).trans (recordsOf_routeEffects ..)
    rfl

theorem spurIdents_passOver (el : List Ix) (w i : Ix) (x : Spur) : spurIdents (passOver el w i x) = spurIdents x := by
  unfold passOver
  repeat' split
  all_goals rfl

@[simp] theorem recordsOf_arbitrate (s : State) : recordsOf s.arbitrate = recordsOf s := by
  unfold State.arbitrate
  simp only []
  split
  · rfl
  · refine (recordsOf_grantSpur ..).trans (recordsOf_eq rfl rfl (fun i => ?_) (fun _ => rfl) rfl rfl rfl)
    simp only [Tri.get_ofFn, spurIdents_passOver]

@[simp] theorem recordsOf_reTest (s : State) : recordsOf s.reTest = recordsOf s :=
  recordsOf_arbitrate s

/-! ### The node and the clock -/

theorem recordsOf_startNode (s : State) : recordsOf s.startNode = recordsOf s := by
  refine (recordsOf_reTest _).trans (recordsOf_eq rfl rfl (fun i => ?_) (fun _ => rfl) rfl rfl rfl)
  simp only [Tri.get_map]
  rfl

theorem recordsOf_resumeNode (s : State) : recordsOf s.resumeNode = recordsOf s :=
  (recordsOf_reTest _).trans (recordsOf_report ..)

theorem recordsOf_tick (s : State) : recordsOf s.tick = recordsOf s := by
  refine recordsOf_eq rfl rfl (fun i => ?_) (fun k => ?_) rfl rfl rfl <;>
    · simp only [State.tick, Tri.get_map]
      rfl

theorem recordsOf_samplePeriod (s : State) : recordsOf s.samplePeriod = recordsOf s := by
  rw [Belt.samplePeriod_frame]; rfl

/-- A change that only records, lists, queues, reports and counters are open to keeps the totes where it keeps these
lists. -/
theorem recordsOf_of_tagChar (c : TagChar) (s : State) : recordsOf (s.tagChar c) = recordsOf s := by
  have hawait : ∀ x : State, recordsOf (x.tagCharAwait c) = recordsOf x := fun x => by
    unfold State.tagCharAwait; split <;> rfl
  have hvalid : ∀ (tag : BitVec 32) (x : State), recordsOf (x.validRead tag) = recordsOf x := fun tag x => by
    unfold State.validRead
    simp only []
    repeat' split
    all_goals rfl
  have hjudge : ∀ (got : List Byte) (x : State), recordsOf (x.judgeRead got) = recordsOf x := fun got x => by
    unfold State.judgeRead
    split
    · split
      · exact hvalid ..
      · rfl
    · rfl
  unfold State.tagChar
  split
  · exact hawait s
  · split
    · exact hawait _
    · split
      · rfl
      · split
        · rfl
        · exact hjudge ..

theorem recordsOf_tagChars (cs : List TagChar) (s : State) : recordsOf (cs.foldl State.tagChar s) = recordsOf s := by
  induction cs generalizing s with
  | nil => rfl
  | cons c cs ih => exact (ih _).trans (recordsOf_of_tagChar c s)

theorem recordsOf_edgeTaken {i : EyeId} {b : Bool} {s : State} {e : Edge} {u : State} (h : Claims.edgeTaken i b s e u) :
    recordsOf u = recordsOf s := by
  rw [Belt.edgeTaken_frame h]; rfl

end Sys2Proof.Totes
end

section
/-! The acts on the expected list, the zone list and the spur lists (R30, R34, R38 to R48, R55 to R59, R100 to R118). -/

namespace Sys2Proof.Totes

open Sys2Proof.Machine Sys2Proof.Safety

/-! ### Runs of moves -/

namespace Follows

variable {s t u : State}

theorem refl (s : State) : Follows s s := Relation.ReflTransGen.refl

theorem trans (h : Follows s t) (k : Follows t u) : Follows s u := Relation.ReflTransGen.trans h k

theorem of_eq (h : recordsOf t = recordsOf s) : Follows s t := by
  unfold Follows; rw [h]

/-- An act that keeps the totes follows a run of moves. -/
theorem keep (h : Follows s t) (k : recordsOf u = recordsOf t) : Follows s u := h.trans (.of_eq k)

theorem ite {p : Prop} [Decidable p] (h : Follows s t) (k : Follows s u) : Follows s (if p then t else u) := by
  split <;> assumption

/-- Announced totes and totes of the zone list leave. -/
theorem of_sublists (expected : t.expected.Sublist s.expected)
    (zone : t.zone.Sublist s.zone) (spurs : ∀ i, (spurIdents (t.spurs.get i)).Sublist (spurIdents (s.spurs.get i)))
    (bays : ∀ k, laneOf (t.bays.get k) = laneOf (s.bays.get k)) (groups : t.groups = s.groups)
    (routes : t.routes = s.routes) (address : t.node.address = s.node.address) : Follows s t := by
  have hmove := Move.shrink (r := recordsOf s) (expected.map Notice.ident) (zone.map Tote.ident) spurs
  have hrecords : recordsOf t = { recordsOf s with
      expected := t.expected.map Notice.ident, zone := t.zone.map Tote.ident, spur := fun i => spurIdents (t.spurs.get i) } := by
    unfold recordsOf
    simp only [bays, groups, routes, address]
  unfold Follows
  rw [hrecords]
  exact .single hmove

end Follows

/-- A spur list with records gone. -/
theorem Move.shrinkSpur {r : Records} {i : Ix} {l : List Ident} (h : l.Sublist (r.spur i)) : Move r (r.setSpur i l) := by
  refine Move.shrink (List.Sublist.refl _) (List.Sublist.refl _) fun j => ?_
  rw [Function.update_apply]
  split
  · next hj => rw [hj]; exact h
  · exact List.Sublist.refl _

/-! ### The expected list and the exit -/

theorem follows_dropOverdue (s : State) : Follows s s.dropOverdue := by
  rw [State.dropOverdue_frame]
  exact .of_sublists (List.dropWhile_sublist _) (List.Sublist.refl _) (fun _ => List.Sublist.refl _) (fun _ => rfl) rfl rfl rfl

theorem recordsOf_announceExit (t : Tote) (s : State) : recordsOf (s.announceExit t) = recordsOf s := by
  rw [State.announceExit_frame]; rfl

theorem recordsOf_exitStillLand (t : Tote) (s : State) : recordsOf (s.exitStillLand t) = recordsOf s := by
  unfold State.exitStillLand
  split
  · rfl
  · exact recordsOf_missEffects ..

theorem follows_exitFront {s : State} {t : Tote} {rest : List Tote} (h : s.zone = t :: rest) :
    Follows s (s.exitFront t rest) := by
  have hgone : Follows s { s with zone := rest, credit := { s.credit with exitHold := s.credit.exitHold && t.claim.isSome } } :=
    .of_sublists (List.Sublist.refl _) (by rw [h]; exact List.sublist_cons_self ..) (fun _ => List.Sublist.refl _)
      (fun _ => rfl) rfl rfl rfl
  exact (hgone.keep (recordsOf_exitStillLand t _)).keep (recordsOf_announceExit t _)

theorem follows_exitLoop (n : Nat) (s : State) : Follows s (State.exitLoop n s) := by
  induction n generalizing s with
  | zero => exact .refl s
  | succ n ih =>
    unfold State.exitLoop
    split
    · exact .refl s
    · next hzone => exact .ite (((follows_exitFront hzone).keep (recordsOf_claims _)).trans (ih _)) (.refl s)

theorem follows_exitTests (s : State) : Follows s s.exitTests :=
  Follows.trans (.of_eq (recordsOf_claims s)) (follows_exitLoop ..)

theorem follows_positionChange (s : State) : Follows s s.positionChange := by
  have hdivert : ∀ x : State, recordsOf (x.divertTests State.testDivert) = recordsOf x :=
    recordsOf_divertTests recordsOf_testDivert ident_testDivert
  have hoverdue := (Follows.of_eq (recordsOf_expireTag s)).trans (follows_dropOverdue _)
  exact (((hoverdue.keep (recordsOf_jamTest _)).keep (hdivert _)).trans (follows_exitTests _)).keep (recordsOf_reTest _)

/-! ### Tags already announced (R34) -/

theorem mem_tags {r : Records} {tag : BitVec 32} :
    tag ∈ r.tags ↔ (∃ d ∈ r.expected, d.tag = tag) ∨ ∃ i, ∃ d ∈ r.spur i, d.tag = tag := by
  simp [Records.tags, Ix.mem_all]

theorem not_mem_tags_of_new {s : State} {tag : BitVec 32} (h : s.tagAnnounced tag = false) (hz : tag ≠ 0) :
    tag ∉ (recordsOf s).tags := by
  simp only [State.tagAnnounced, hz, ne_eq, not_false_eq_true, decide_true, Bool.true_and, Bool.or_eq_false_iff,
    List.any_eq_false, decide_eq_true_eq] at h
  obtain ⟨hexpected, hspurs⟩ := h
  rw [mem_tags]
  rintro (⟨d, hd, htag⟩ | ⟨i, d, hd, htag⟩)
  · obtain ⟨n, hn, rfl⟩ := List.mem_map.mp hd
    exact hexpected n hn htag
  · obtain ⟨x, hx, rfl⟩ := List.mem_map.mp hd
    exact hspurs i (Ix.mem_all i) (List.any_eq_true.mpr ⟨x, hx, decide_eq_true htag⟩)

/-! ### Identity fields as they are decoded (R24, R25, R38) -/

theorem groupSound_normGroup {id count index : Nat} {g : GroupPart} (h : normGroup id count index = some g) :
    groupSound g := by
  unfold normGroup at h
  split at h
  · next hr =>
    obtain rfl := Option.some.inj h
    exact hr
  · cases h

theorem normOrigin_le (b : Byte) : normOrigin b ≤ 61 := by
  unfold normOrigin; split <;> omega

theorem identSound_decodeNotice {p : List Byte} {q : Byte} {i : Ident} (h : decodeNotice p = some (q, i)) :
    identSound i := by
  unfold decodeNotice at h
  split at h
  · split at h
    · cases h
    · obtain ⟨-, rfl⟩ := Prod.mk.inj (Option.some.inj h)
      exact ⟨nofun, normOrigin_le _⟩
  · split at h
    · obtain ⟨-, rfl⟩ := Prod.mk.inj (Option.some.inj h)
      exact ⟨fun g hg => groupSound_normGroup hg, normOrigin_le _⟩
    · cases h
  · cases h

theorem decodeSpurNotice_sound {address : Nat} {p : List Byte} {sp : Byte} {d : Ident}
    (h : decodeSpurNotice address p = some (sp, d)) : (∀ g ∈ d.group, groupSound g) ∧ d.origin = address := by
  unfold decodeSpurNotice at h
  split at h
  · split at h
    · cases h
    · obtain ⟨-, rfl⟩ := Prod.mk.inj (Option.some.inj h)
      exact ⟨nofun, rfl⟩
  · split at h
    · obtain ⟨-, rfl⟩ := Prod.mk.inj (Option.some.inj h)
      exact ⟨fun g hg => groupSound_normGroup hg, rfl⟩
    · cases h
  · cases h

/-! ### Notices (R39, R100) -/

theorem follows_trackNotice {i : Ident} (hi : identSound i) (s : State) : Follows s (s.trackNotice i) := by
  unfold State.trackNotice
  split
  · exact .of_eq (recordsOf_report ..)
  · next hnone =>
    have hroom : s.expected.length < 16 := by
      simp only [State.noticeRefusal] at hnone
      split at hnone
      · cases hnone
      · split at hnone
        · cases hnone
        · next h => exact Nat.not_le.mp h
    have hnew : s.tagAnnounced i.tag = false := by
      simp only [State.noticeRefusal] at hnone
      split at hnone
      · cases hnone
      · split at hnone
        · cases hnone
        · split at hnone
          · cases hnone
          · next h => exact Bool.eq_false_iff.mpr h
    have hmove := Move.notice (r := recordsOf s) (by simpa [recordsOf] using hroom) (not_mem_tags_of_new hnew) hi
    refine Follows.trans ?_ (follows_dropOverdue _)
    refine Relation.ReflTransGen.single ?_
    have hrecords : recordsOf { s with expected := s.expected ++ [Notice.mk i s.pos.P] } =
        { recordsOf s with expected := (recordsOf s).expected ++ [i] } := by
      simp [recordsOf]
    rw [hrecords]
    exact hmove

theorem follows_takeNotice {i : Ident} (hi : identSound i) (q : Byte) (s : State) : Follows s (s.takeNotice q i) := by
  have hadmission := Follows.of_eq (recordsOf_admission q i s)
  exact .ite ((hadmission.trans (follows_trackNotice hi _)).keep (recordsOf_reTest _)) hadmission

theorem follows_noticeFrameIn (payload : List Byte) (s : State) : Follows s (s.noticeFrameIn payload) := by
  unfold State.noticeFrameIn
  split
  · next hdecode => exact follows_takeNotice (identSound_decodeNotice hdecode) _ s
  · exact .of_eq rfl

theorem follows_noticeArrives (payload : List Byte) (s : State) : Follows s (s.noticeArrives payload) :=
  .ite (.of_eq rfl) (follows_noticeFrameIn ..)

/-! ### Credits do not touch the totes -/

theorem follows_takeSync (value : Byte) (s : State) : Follows s (s.takeSync value) :=
  .of_eq ((recordsOf_reTest _).trans (recordsOf_claims _))

theorem follows_takeLocked (g r : Byte) (s : State) : Follows s (s.takeLocked g r) := by
  have hresync : recordsOf (s.reportResync g r) = recordsOf s := by
    unfold State.reportResync; split <;> simp
  exact .of_eq (((recordsOf_reTest _).trans (recordsOf_claims _)).trans hresync)

theorem follows_creditFrameIn (payload : List Byte) (s : State) : Follows s (s.creditFrameIn payload) := by
  unfold State.creditFrameIn
  split
  · split
    · exact follows_takeSync ..
    · exact follows_takeLocked ..
    · exact .of_eq rfl
  · exact .of_eq rfl

/-! ### The entry eye (R43 to R53) -/

/-- What a match found is the list split at it (R46, R47). -/
theorem expected_of_found {enable : Nat} {tag : Option (BitVec 32)} {l skipped rest : List Notice} {n : Notice}
    {noRead : Bool} (h : entryMatch enable tag l = .found skipped n rest noRead) : l = skipped ++ n :: rest := by
  have hfront : ∀ b, matchFront b l = .found skipped n rest noRead → l = skipped ++ n :: rest := fun b hb => by
    unfold matchFront at hb
    split at hb
    · cases hb
    · cases hb; rfl
  unfold entryMatch at h
  split at h
  · split at h
    · exact hfront _ h
    · next t =>
      split at h
      · cases h
      · next hdrop =>
        cases h
        rw [← hdrop, List.takeWhile_append_dropWhile]
  · exact hfront _ h

theorem recordsOf_appendEntering (lead : Pos) (i : Ident) (stray noRead : Bool) (s : State) :
    recordsOf (s.appendEntering lead i stray noRead) =
      { recordsOf s with zone := (recordsOf s).zone ++ [i] } := by
  refine (recordsOf_offer ..).trans ((recordsOf_routeEffects ..).trans ?_)
  simp [recordsOf]

theorem follows_arrive {s : State} (hroom : s.zone.length < 24) (stamp : Pos) (tag : Option (BitVec 32)) :
    Follows s (s.arrive stamp tag) := by
  have hroom' : (recordsOf s).zone.length < 24 := by simpa [recordsOf] using hroom
  unfold State.arrive
  split
  · next skipped n rest _ hfound =>
    have hsplit := expected_of_found hfound
    have hmem : n.ident ∈ (recordsOf s).expected := List.mem_map_of_mem (by simp [hsplit])
    have hrest : (rest.map Notice.ident).Sublist (s.expected.map Notice.ident) := by
      rw [hsplit]
      exact List.Sublist.map _ ((List.sublist_cons_self n rest).trans (List.sublist_append_right ..))
    have henter := Move.enter hroom' (.inl hmem) (List.perm_append_singleton ..)
    have hshrink := Move.shrink (r := { recordsOf s with zone := (recordsOf s).zone ++ [n.ident] }) hrest
      (List.Sublist.refl _) fun _ => List.Sublist.refl _
    unfold Follows
    rw [recordsOf_appendEntering, recordsOf_reportMissing]
    exact (Relation.ReflTransGen.single henter).tail hshrink
  · next tag' _ =>
    unfold Follows
    rw [recordsOf_appendEntering, recordsOf_offer, recordsOf_report]
    exact .single (.enter hroom' (.inr (.inr ⟨tag', rfl⟩)) (List.perm_append_singleton ..))

theorem takeTag_zone (s : State) : s.takeTag.2.zone = s.zone := by
  unfold State.takeTag; split <;> rfl

theorem follows_entryLeading (e : Edge) (s : State) : Follows s (s.entryLeading e) := by
  have htag := Follows.of_eq (recordsOf_takeTag s)
  unfold State.entryLeading
  split
  · exact .refl s
  split
  · exact .refl s
  split
  · exact htag.keep (recordsOf_report ..)
  · next hroom =>
    have harrive := follows_arrive (s := s.takeTag.2) (by rw [takeTag_zone]; exact Nat.not_le.mp hroom) e.stamp s.takeTag.1
    exact (((htag.trans harrive).trans (follows_dropOverdue _)).trans (follows_exitTests _)).keep (recordsOf_reTest _)

theorem recordsOf_closeEntering {s : State} {init : List Tote} {t : Tote} (h : s.zone = init ++ [t]) (stamp : Pos)
    (d : Decision) : recordsOf (s.closeEntering stamp init t d) = recordsOf s := by
  have hreport : ∀ m : Option Nat, recordsOf
      (match m with | some n => s.report .lengthMismatch n t.ident.tag t.ident.order | none => s) = recordsOf s := fun m => by
    cases m
    · rfl
    · exact recordsOf_report ..
  have hzone : ∀ {x : State} {y : Tote}, recordsOf x = recordsOf s → y.ident = t.ident →
      recordsOf { x with zone := init ++ [y] } = recordsOf s := fun {x y} hx hy => by
    rw [recordsOf_withZone, hx]
    unfold recordsOf
    simp [h, hy]
  unfold State.closeEntering
  cases d with
  | pass => exact hzone (hreport _) rfl
  | land k => exact hzone ((recordsOf_testArmed ..).trans (hreport _)) (ident_testArmed ..)

theorem follows_entryTrailing (e : Edge) (s : State) : Follows s (s.entryTrailing e) := by
  unfold State.entryTrailing
  split
  · exact .refl s
  split
  · next t hlast =>
    have hzone : s.zone = s.zone.dropLast ++ [t] := (List.dropLast_append_getLast? t hlast).symm
    split
    · exact .of_eq (((recordsOf_reTest _).trans (recordsOf_claims _)).trans (recordsOf_closeEntering hzone ..))
    · exact .refl s
  · exact .refl s

/-! ### Gate eyes (R102 to R112) -/

theorem follows_modSpur {i : Ix} {f : Spur → Spur} {s : State}
    (h : (spurIdents (f (s.spurs.get i))).Sublist (spurIdents (s.spurs.get i))) : Follows s (s.modSpur i f) := by
  unfold Follows
  rw [recordsOf_modSpur]
  exact .single (Move.shrinkSpur h)

theorem follows_toteAtGate (i : Ix) (s : State) : Follows s (s.toteAtGate i) := by
  unfold State.toteAtGate
  split
  · next r rest hlist =>
    refine follows_modSpur ?_
    simp [spurIdents, hlist]
  · next hlist =>
    unfold Follows
    rw [recordsOf_offer, recordsOf_report, recordsOf_modSpur]
    exact .single (.spurStray (r := recordsOf s) (by simp [recordsOf, spurIdents, hlist]))

theorem follows_gateBlocked (i : Ix) (s : State) : Follows s (s.gateBlocked i) :=
  .ite ((follows_toteAtGate i s).keep (recordsOf_reTest _)) (.refl s)

theorem tail_spurIdents (x : Spur) : (x.list.tail.map SpurRec.ident).Sublist (spurIdents x) :=
  (List.tail_sublist _).map _

theorem follows_loseFront (i : Ix) (d : Nat) (s : State) : Follows s (s.loseFront i d) := by
  have hfront : Follows s (s.modSpur i fun x => { x with st := .empty, list := x.list.tail }) :=
    follows_modSpur (tail_spurIdents _)
  unfold State.loseFront
  split
  · exact hfront.keep (recordsOf_report ..)
  · exact hfront

theorem follows_discardGranted (i : Ix) (g : Grant) (r : SpurRec) (why : ReportKind) (d : Nat) (s : State) :
    Follows s (s.discardGranted i g r why d) :=
  ((Follows.of_eq (recordsOf_releaseDecision ..)).trans (follows_modSpur (f := Spur.released) (tail_spurIdents _))).keep
    (recordsOf_report ..)

theorem perm_insertByLead (t : Tote) (zone : List Tote) :
    ((insertByLead t zone).map Tote.ident).Perm (t.ident :: zone.map Tote.ident) := by
  have h := List.perm_middle (l₁ := zone.take (placeOf t.lead zone)) (l₂ := zone.drop (placeOf t.lead zone)) (a := t)
  rw [List.take_append_drop] at h
  exact h.map Tote.ident

theorem follows_insertGranted {i : Ix} {s : State} {r : SpurRec} {rest : List SpurRec}
    (hlist : (s.spurs.get i).list = r :: rest) (hroom : s.zone.length < 24) (g : Grant) :
    Follows s (s.insertGranted i g r) := by
  have hmem : r.ident ∈ (recordsOf s).spur i := by simp [recordsOf, spurIdents, hlist]
  unfold State.insertGranted
  simp only []
  generalize hfreed : (s.modSpur i Spur.released).offer .mergeDone (some r.ident.cls) (some i.toNat) = x
  have hzone : x.zone = s.zone := by rw [← hfreed]; rfl
  have hrecords : recordsOf x = (recordsOf s).setSpur i ((s.spurs.get i).list.tail.map SpurRec.ident) := by
    rw [← hfreed, recordsOf_offer, recordsOf_modSpur]; rfl
  have hident : (x.testArmed (x.mergedTote r g)).1.ident = r.ident := (ident_testArmed ..).trans rfl
  have hperm := perm_insertByLead (x.testArmed (x.mergedTote r g)).1 x.zone
  rw [hident, hzone] at hperm
  refine Follows.trans ?_ (follows_exitTests _)
  have henter := Move.enter (r := recordsOf s) (by simpa [recordsOf] using hroom) (.inr (.inl ⟨i, hmem⟩)) hperm
  refine (Relation.ReflTransGen.single henter).tail ?_
  have hshrink := Move.shrinkSpur (i := i) (r := { recordsOf s with
      zone := (insertByLead (x.testArmed (x.mergedTote r g)).1 s.zone).map Tote.ident })
    (l := (s.spurs.get i).list.tail.map SpurRec.ident) (tail_spurIdents _)
  convert hshrink using 1
  refine (recordsOf_withZone _ (x.testArmed (x.mergedTote r g)).2).trans ?_
  rw [recordsOf_testArmed, hrecords, hzone]
  rfl

theorem follows_gateReleased (i : Ix) (stamp : Pos) (g : Grant) (s : State) : Follows s (s.gateReleased i stamp g) := by
  unfold State.gateReleased
  split
  · exact .refl s
  · next r rest hlist =>
    split
    · exact follows_discardGranted ..
    · split
      · exact follows_discardGranted ..
      · next hroom => exact follows_insertGranted hlist (Nat.not_le.mp hroom) g

theorem follows_gateCleared (i : Ix) (e : Edge) (s : State) : Follows s (s.gateCleared i e) := by
  unfold State.gateCleared
  split
  · split
    · exact follows_loseFront ..
    · exact (follows_gateReleased ..).keep (recordsOf_reTest _)
    · exact .refl s
  · exact .refl s

/-! ### CONFIG entry (R157) -/

theorem follows_enterConfig (s : State) : Follows s s.enterConfig := by
  have hreport := recordsOf_report .discarded (s.expected.length + s.zone.length) 0 0 { s with expected := [], zone := [] }
  have hempty : Follows s { s with expected := [], zone := [] } :=
    .of_sublists (List.nil_sublist _) (List.nil_sublist _) (fun _ => List.Sublist.refl _) (fun _ => rfl) rfl rfl rfl
  refine (hempty.keep hreport).trans (.of_sublists (List.Sublist.refl _) (List.Sublist.refl _) (fun i => ?_) (fun k => ?_) rfl rfl rfl)
  · simp only [State.enterConfig, Tri.get_map]
    exact List.nil_sublist _
  · simp only [State.enterConfig, Tri.get_map]
    rfl

end Sys2Proof.Totes
end

section
/-! The acts on the landing lanes and the group table (R87 to R97, R121 to R128). -/

namespace Sys2Proof.Totes

open Sys2Proof.Machine Sys2Proof.Safety

/-! ### What the Assembly Unit does to a lane -/

theorem laneOf_orderCalled (p : Params) (c : Cls) (b : Bay) : laneOf (b.orderCalled p c) = (laneOf b).call c := rfl

theorem laneOf_fallToDark (b : Bay) : laneOf b.fallToDark = laneOf b := by
  unfold Bay.fallToDark; split <;> rfl

theorem laneOf_orderGone (c : Cls) (b : Bay) : laneOf (b.orderGone c) = (laneOf b).collect c :=
  laneOf_fallToDark _

theorem atLane_atLane (k : Ix) (f g : Lane → Lane) (r : Records) :
    (r.atLane k f).atLane k g = r.atLane k fun l => g (f l) := by
  simp [Records.atLane]

@[simp] theorem lane_atLane_self (k : Ix) (f : Lane → Lane) (r : Records) : (r.atLane k f).lane k = f (r.lane k) :=
  Function.update_self ..

theorem atLane_congr {k : Ix} {f g : Lane → Lane} {r : Records} (h : f (r.lane k) = g (r.lane k)) :
    r.atLane k f = r.atLane k g := by
  simp [Records.atLane, h]

theorem entry_of_find {gs : List GroupEntry} {id : Nat} {e : GroupEntry}
    (h : gs.find? (fun x => decide (x.id = id)) = some e) : e ∈ gs ∧ e.id = id :=
  ⟨List.mem_of_find?_eq_some h, of_decide_eq_true (List.find?_some (p := fun x : GroupEntry => decide (x.id = id)) h)⟩

theorem no_entry_of_find {gs : List GroupEntry} {id : Nat} (h : gs.find? (fun x => decide (x.id = id)) = none) :
    ∀ e ∈ gs, e.id ≠ id :=
  fun e he hid => absurd (decide_eq_true hid) (List.find?_eq_none.mp h e he)

theorem recordsOf_singleLanding (k : Ix) (x : LandingRec) (s : State) :
    recordsOf (s.singleLanding k x) = (recordsOf s).atLane k (Lane.call x.cls) := by
  unfold State.singleLanding
  rw [recordsOf_report]
  exact recordsOf_modBay_of (laneOf_orderCalled s.params x.cls) s

section Landing

variable {k : Ix} {x : LandingRec} {u : State} {r : Records} (h : recordsOf u = r.atLane k (Lane.land x))
include h

theorem laneOf_landed : laneOf (u.bays.get k) = (r.lane k).land x := by
  have hlane : laneOf (u.bays.get k) = (r.atLane k (Lane.land x)).lane k := congrArg (fun r : Records => r.lane k) h
  rw [hlane, lane_atLane_self]

/-- A degraded landing is that of a single-tote order (R123, R124). -/
theorem recordsOf_degradedLanding (why : ReportKind) : recordsOf (u.degradedLanding why k x) =
    r.atLane k fun l => (l.land { x with group := none }).call x.cls := by
  have hdegraded : laneOf (u.bays.get k).degradeLast = (r.lane k).land { x with group := none } := by
    have hlane := laneOf_landed h
    obtain ⟨hlanding, hready, hrush⟩ := Lane.mk.inj hlane
    unfold Bay.degradeLast
    rw [hlanding, List.getLast?_concat]
    simp only [List.dropLast_concat]
    exact congrArg₂ (Lane.mk _) hready hrush
  unfold State.degradedLanding
  rw [recordsOf_singleLanding, recordsOf_report, recordsOf_modBay, h, atLane_atLane, atLane_atLane]
  exact atLane_congr (congrArg (Lane.call x.cls) hdegraded)

/-- A landing counted into the entry e (R125). -/
theorem recordsOf_countLanding (e : GroupEntry) : recordsOf (u.countLanding k x e) = r.countMember k x e := by
  have hgroups : u.groups = r.groups := congrArg Records.groups h
  unfold State.countLanding Records.countMember
  rw [← h, ← hgroups]
  simp only []
  split
  · next hfull =>
    have hcount : (e.land k x.cls).landed = e.count := hfull
    unfold State.declareReady
    rw [recordsOf_report]
    unfold recordsOf
    simp only [Tri.get_ofFn, hcount, true_and]
    congr 1
    funext j
    split <;> rfl
  · next hfull =>
    have hcount : (e.land k x.cls).landed ≠ e.count := hfull
    unfold recordsOf
    simp only [hcount, false_and, if_false]

end Landing

/-- Totes leave the zone list. -/
theorem Move.leaveZone {r : Records} {z : List Ident} (h : z.Sublist r.zone) : Move r { r with zone := z } :=
  .shrink (List.Sublist.refl _) h fun _ => List.Sublist.refl _

/-- A record that has left the zone list for lane k and is handed to the Assembly Unit (R122 to R125). -/
theorem moves_assemblyLanding {k : Ix} {x : LandingRec} {d : Ident} {u : State} {r : Records} {z : List Ident}
    (h : recordsOf u = ({ r with zone := z } : Records).atLane k (Lane.land x)) (hroom : (r.lane k).landing.length < 8)
    (hz : z.Sublist r.zone) (hd : d ∈ r.zone) (hgroup : d.group = x.group) (hx : x.unexpected = false) :
    Relation.ReflTransGen Move r (recordsOf (u.assemblyLanding k x)) := by
  have hgroups : u.groups = r.groups := congrArg Records.groups h
  have hdegraded : ∀ why, Relation.ReflTransGen Move r (recordsOf (u.degradedLanding why k x)) := fun why => by
    rw [recordsOf_degradedLanding h]
    exact (Relation.ReflTransGen.single (Move.landSingle (x := { x with group := none }) hroom rfl hx)).tail (.leaveZone hz)
  unfold State.assemblyLanding
  rw [hgroups]
  split
  · next hnone =>
    rw [recordsOf_singleLanding, h, atLane_atLane]
    exact (Relation.ReflTransGen.single (Move.landSingle hroom hnone hx)).tail (.leaveZone hz)
  · next g hg =>
    have hpart := hgroup.trans hg
    split
    · next e hfind =>
      obtain ⟨hmem, hid⟩ := entry_of_find hfind
      split
      · exact hdegraded _
      · next hwanted =>
        rw [recordsOf_countLanding h]
        have hland := Move.landMember hroom hd hpart hg hx hmem hid (.inl hwanted)
        exact (Relation.ReflTransGen.single hland).tail (.leaveZone hz)
    · next hfind =>
      have hnew := no_entry_of_find hfind
      split
      · next hplace =>
        rw [recordsOf_countLanding (r := { r with zone := z, groups := r.groups ++ [GroupEntry.new g] })
          (congrArg (fun q : Records => { q with groups := r.groups ++ [GroupEntry.new g] }) h)]
        have hopen := Move.openGroup hplace hd hpart hnew
        have hland := Move.landMember (r := { r with groups := r.groups ++ [GroupEntry.new g] })
          hroom hd hpart hg hx (List.mem_append_right _ (List.mem_singleton_self _)) rfl (.inr rfl)
        exact ((Relation.ReflTransGen.single hopen).tail hland).tail (.leaveZone hz)
      · exact hdegraded _

/-! ### Landings (R87 to R89) -/

theorem recordsOf_reportIf (k : ReportKind) (d : Nat) (tag : BitVec 32) (order : BitVec 24) (s : State) :
    recordsOf (Claims.reportIf k d tag order s) = recordsOf s := by
  unfold Claims.reportIf; split <;> simp

theorem takeConfirming_split {k : Ix} {l rest : List Tote} {t : Tote} (h : takeConfirming k l = some (t, rest)) :
    t ∈ l ∧ rest.Sublist l := by
  induction l generalizing rest with
  | nil => cases h
  | cons a l ih =>
    simp only [takeConfirming] at h
    split at h
    all_goals
      split at h
      · cases h
        exact ⟨List.mem_cons_self, List.sublist_cons_self ..⟩
      · obtain ⟨x, hx, hpair⟩ := Option.map_eq_some_iff.mp h
        obtain ⟨rfl, rfl⟩ := Prod.mk.inj hpair
        obtain ⟨hmem, hsub⟩ := ih hx
        exact ⟨List.mem_cons_of_mem a hmem, hsub.cons_cons a⟩

theorem recordsOf_landedRecord (k : Ix) (rest : List Tote) (s : State) :
    recordsOf (Belt.landedRecord k rest s) = { recordsOf s with zone := rest.map Tote.ident } := by
  refine (recordsOf_modBay_same fun b => ?_).trans (recordsOf_withZone rest s)
  rfl

theorem follows_landTote {k : Ix} {s : State} {t : Tote} {rest : List Tote} (ht : t ∈ s.zone) (hrest : rest.Sublist s.zone) :
    Follows s (s.landTote k t rest) := by
  have hz : (rest.map Tote.ident).Sublist (recordsOf s).zone := hrest.map _
  by_cases hfull : 8 ≤ (s.bays.get k).landing.length
  · rw [Belt.landTote_full hfull]
    unfold Follows
    rw [recordsOf_offer, recordsOf_reportIf, recordsOf_landedRecord]
    exact .single (.leaveZone hz)
  · rw [Belt.landTote_room (Nat.not_le.mp hfull)]
    refine moves_assemblyLanding ?_ (Nat.not_le.mp hfull) hz (List.mem_map_of_mem ht) rfl rfl
    rw [recordsOf_offer, recordsOf_reportIf, recordsOf_modBay_of (F := Lane.land (Claims.landingOf t)) fun _ => rfl,
      recordsOf_landedRecord]

theorem follows_landUnexpected (k : Ix) (s : State) : Follows s (s.landUnexpected k) := by
  unfold State.landUnexpected
  split
  · next hroom =>
    unfold Follows
    rw [recordsOf_report, recordsOf_modBay_of (F := Lane.land unexpectedRec) fun _ => rfl]
    exact .single (.landUnexpected hroom)
  · exact .of_eq (recordsOf_report ..)

theorem follows_confirmBlocked (k : Ix) (s : State) : Follows s (s.confirmBlocked k) := by
  have hjam : Follows s (s.startChuteJam k) := .of_eq (recordsOf_modBay_same fun _ => rfl)
  unfold State.confirmBlocked
  split
  · next hconfirming =>
    obtain ⟨hmem, hrest⟩ := takeConfirming_split hconfirming
    exact ((hjam.trans (follows_landTote hmem hrest)).trans (follows_exitTests _)).keep (recordsOf_reTest _)
  · exact hjam.trans (follows_landUnexpected ..)

theorem recordsOf_confirmCleared (k : Ix) (s : State) : recordsOf (s.confirmCleared k) = recordsOf s := by
  have hcleared : recordsOf (s.modBay k fun b => { b with chuteJam := none, blocked := false }) = recordsOf s :=
    recordsOf_modBay_same fun _ => rfl
  unfold State.confirmCleared
  simp only []
  split
  · exact (recordsOf_report ..).trans hcleared
  · exact hcleared

/-! ### Taken totes (R94, R97, R126 to R128) -/

/-- The state with a taken member counted, before the entry of a complete order goes (steps 1 and 2 of R127). -/
def memberCounted (k : Ix) (e : GroupEntry) (u : State) : State :=
  if e.ready && decide ((e.take k).untaken.get k = 0) then
    ({ u with groups := replaceGroup (e.take k) u.groups } : State).modBay k (Bay.orderGone e.cls)
  else { u with groups := replaceGroup (e.take k) u.groups }

theorem memberTaken_eq (k : Ix) (x : LandingRec) (e : GroupEntry) (u : State) : u.memberTaken k x e =
    if (e.take k).taken = e.count then
      ({ memberCounted k e u with
        groups := (memberCounted k e u).groups.filter fun y => decide (y.id ≠ e.id) }).report .orderCollected k.toNat x.tag x.order
    else memberCounted k e u := rfl

section Taking

variable {k : Ix} {e : GroupEntry} {u : State} {r : Records} (h : recordsOf u = r.atLane k Lane.next)
include h

theorem recordsOf_memberCounted : recordsOf (memberCounted k e u) =
    { r.atLane k fun l => if e.ready && decide ((e.take k).untaken.get k = 0) then l.next.collect e.cls else l.next with
      groups := replaceGroup (e.take k) r.groups } := by
  have hgroups : u.groups = r.groups := congrArg Records.groups h
  have hreplaced : recordsOf { u with groups := replaceGroup (e.take k) u.groups } =
      { r.atLane k Lane.next with groups := replaceGroup (e.take k) r.groups } := by
    rw [← h, ← hgroups]; rfl
  unfold memberCounted
  cases e.ready && decide ((e.take k).untaken.get k = 0) with
  | false => exact hreplaced
  | true =>
    refine (recordsOf_modBay_of (laneOf_orderGone e.cls) _).trans ?_
    rw [hreplaced]
    exact congrArg (fun q : Records => { q with groups := replaceGroup (e.take k) r.groups }) (atLane_atLane ..)

/-- The Assembly Unit's act on a taken member (R127). -/
theorem recordsOf_memberTaken (x : LandingRec) : recordsOf (u.memberTaken k x e) = r.takeMember k e := by
  have hcounted := recordsOf_memberCounted (e := e) h
  have hgroups : (memberCounted k e u).groups = replaceGroup (e.take k) r.groups := congrArg Records.groups hcounted
  rw [memberTaken_eq]
  unfold Records.takeMember Records.groupsWithout
  split
  · rw [recordsOf_report, hgroups]
    exact congrArg (fun q : Records => { q with
      groups := (replaceGroup (e.take k) r.groups).filter fun y => decide (y.id ≠ e.id) }) hcounted
  · exact hcounted

end Taking

theorem recordsOf_takenFront {k : Ix} {s : State} {x : LandingRec} {rest : List LandingRec}
    (h : (s.bays.get k).landing = x :: rest) :
    recordsOf (s.modBay k fun b => { b with landing := rest }) = (recordsOf s).atLane k Lane.next := by
  rw [recordsOf_modBay]
  refine atLane_congr ?_
  have hnext : ((recordsOf s).lane k).next = laneOf { s.bays.get k with landing := (s.bays.get k).landing.tail } := rfl
  rw [hnext, h]
  rfl

theorem follows_takeFront (k : Ix) (d : Nat) (s : State) : Follows s (s.takeFront k d) := by
  unfold State.takeFront
  split
  · exact .refl s
  · next x rest hlanding =>
    simp only []
    have hfront : ((recordsOf s).lane k).landing = x :: rest := hlanding
    generalize htaken : (if s.params.reportLandings = 1 then
      (s.modBay k fun b => { b with landing := rest }).report .taken d x.tag x.order
      else s.modBay k fun b => { b with landing := rest }) = u
    have hu : recordsOf u = (recordsOf s).atLane k Lane.next := by
      rw [← htaken, ← recordsOf_takenFront hlanding]
      split
      · exact recordsOf_report ..
      · rfl
    have hgroups : u.groups = s.groups := congrArg Records.groups hu
    have huncounted : (x.unexpected = true ∨ ∃ g, x.group = some g ∧ ∀ e ∈ s.groups, e.id ≠ g.id) → Follows s u := fun h => by
      unfold Follows
      rw [hu]
      exact .single (.takeUncounted hfront h)
    split
    · next hx => exact huncounted (.inl hx)
    · next hx =>
      have hexpected : x.unexpected = false := Bool.eq_false_iff.mpr hx
      unfold State.assemblyTaken
      split
      · next hnone =>
        unfold Follows State.singleTaken
        rw [recordsOf_report, recordsOf_modBay_of (laneOf_orderGone x.cls), hu, atLane_atLane]
        exact .single (.takeSingle hfront hnone hexpected)
      · next g hg =>
        rw [hgroups]
        split
        · next e hfind =>
          obtain ⟨hmem, hid⟩ := entry_of_find hfind
          unfold Follows
          rw [recordsOf_memberTaken hu]
          exact .single (.takeMember hfront hg hexpected hmem hid)
        · next hfind => exact huncounted (.inr ⟨g, hg, no_entry_of_find hfind⟩)

theorem follows_takeMany (k : Ix) (d n : Nat) (s : State) : Follows s (State.takeMany k d n s) := by
  induction n generalizing s with
  | zero => exact .refl s
  | succ n ih => exact (follows_takeFront k d s).trans (ih _)

theorem follows_frontCleared (k : Ix) (s : State) : Follows s (s.frontCleared k) := by
  unfold State.frontCleared
  split
  · exact .of_eq (recordsOf_offer ..)
  · exact follows_takeFront ..

end Sys2Proof.Totes
end

section
/-! Every step changes the totes of a state by moves. -/

namespace Sys2Proof.Totes

open Sys2Proof.Machine Sys2Proof.Safety Sys2Proof.Claims

/-! ### Requests that read (R36, R65, R174, R178) -/

theorem reqInquire_state (p : List Byte) (s : State) : (reqInquire p s).1 = s := by
  unfold reqInquire; split <;> rfl

theorem reqReadParameters_state (p : List Byte) (s : State) : (reqReadParameters p s).1 = s := by
  unfold reqReadParameters
  split
  · split <;> rfl
  · rfl

theorem reqRouteRead_state (p : List Byte) (s : State) : (reqRouteRead p s).1 = s := by
  unfold reqRouteRead
  split
  · simp only []
    repeat' split
    all_goals rfl
  · rfl

theorem reqListRead_state (p : List Byte) (s : State) : (reqListRead p s).1 = s := by
  unfold reqListRead
  split
  · split
    · rfl
    · simp only []
      split <;> rfl
  · rfl

theorem reqCounterRead_state (p : List Byte) (s : State) : (reqCounterRead p s).1 = s := by
  unfold reqCounterRead; split <;> rfl

theorem reqNodeReset_state (p : List Byte) (s : State) : (reqNodeReset p s).1 = s := by
  unfold reqNodeReset; split <;> rfl

/-! ### Route writes (R62, R63) -/

theorem length_pairsOf (l : List Byte) : (pairsOf l).length = l.length / 2 := by
  induction l using pairsOf.induct with
  | case1 a b rest ih =>
    simp only [pairsOf, List.length_cons, ih]
    omega
  | case2 l hl =>
    rcases l with _ | ⟨a, _ | ⟨b, rest⟩⟩
    · rfl
    · simp [pairsOf]
    · exact absurd rfl (hl a b rest)

/-- The entries decoded are as many as the pairs, and that for destination code 0 is PASS (R62). -/
theorem decodeRoutes_ok {index : Nat} {bs : List (Byte × Byte)} {es : List RouteEntry}
    (h : decodeRoutes index bs = .ok es) :
    es.length = bs.length ∧ (index = 0 → bs ≠ [] → es.head? = some .pass) := by
  induction bs generalizing index es with
  | nil =>
    cases h
    exact ⟨rfl, fun _ hne => absurd rfl hne⟩
  | cons b bs ih =>
    unfold decodeRoutes at h
    split at h
    · cases h
    · next e he =>
      split at h
      · next rest hrest =>
        cases h
        obtain ⟨hlength, _⟩ := ih hrest
        refine ⟨congrArg (· + 1) hlength, fun hindex _ => ?_⟩
        unfold decodeRouteAt at he
        split at he
        · split at he
          · cases he
          · next hpass =>
            cases he
            rw [List.head?_cons, not_not.mp fun hne => hpass ⟨hindex, hne⟩]
        · cases he
      · cases h

/-! ### The handlers -/

/-- What the request does to the totes it does by moves. -/
def HandlerFollows (op : Handler) : Prop := ∀ p s, Follows s (op p s).1

theorem handlerFollows_of_read {op : Handler} (h : ∀ p s, (op p s).1 = s) : HandlerFollows op :=
  fun p s => .of_eq (by rw [h])

theorem handlerFollows_setParameters : HandlerFollows reqSetParameters := fun p s => by
  unfold reqSetParameters
  split
  · split
    · exact .refl s
    · refine .of_eq ?_
      rw [Belt.writePairs_frame]
      rfl
  · exact .refl s

theorem handlerFollows_routeWrite : HandlerFollows reqRouteWrite := fun p s => by
  unfold reqRouteWrite
  split
  · next first count es =>
    split
    · exact .refl s
    next hlen =>
    split
    · exact .refl s
    next hfits =>
    split
    · exact .refl s
    · next rs hdecode =>
      obtain ⟨hlength, hpass⟩ := decodeRoutes_ok hdecode
      obtain ⟨hes, hcount, _⟩ : es.length = 2 * count.toNat ∧ count.toNat ≠ 0 ∧ count.toNat ≤ Config.routeRun := by
        simpa only [not_or, not_not, Nat.not_lt] using hlen
      have hpairs : (pairsOf es).length = count.toNat := by
        rw [length_pairsOf, hes]; omega
      rw [hpairs] at hlength
      refine .single (Move.writeRoutes (r := recordsOf s) (hlength ▸ Nat.not_lt.mp hfits) fun hzero => ?_)
      exact hpass hzero fun hnil => hcount (by rw [← hpairs, hnil]; rfl)
  · exact .refl s

theorem handlerFollows_routeCommit : HandlerFollows reqRouteCommit := fun p s => by
  unfold reqRouteCommit
  split
  · exact .single (Move.commitRoutes (r := recordsOf s))
  · exact .refl s

theorem handlerFollows_spurNotice : HandlerFollows reqSpurNotice := fun p s => by
  unfold reqSpurNotice
  split
  · exact .refl s
  next sp d hdecode =>
  split
  · exact .refl s
  next i _ =>
  split
  · exact .refl s
  next hnone =>
  have hdone : (s.spurs.get i).list.length < 6 ∧ s.tagAnnounced d.tag = false := by
    unfold State.spurRefusal at hnone
    split at hnone
    · cases hnone
    · split at hnone
      · cases hnone
      · next hroom =>
        split at hnone
        · cases hnone
        · next hnew => exact ⟨Nat.not_le.mp hroom, Bool.eq_false_iff.mpr hnew⟩
  obtain ⟨hroom, hnew⟩ := hdone
  obtain ⟨hsound, horigin⟩ := decodeSpurNotice_sound hdecode
  have hmove := Move.spurNotice (r := recordsOf s) (i := i) (by simpa [recordsOf, spurIdents] using hroom)
    (not_mem_tags_of_new hnew) hsound horigin
  unfold Follows
  simp only []
  rw [recordsOf_modSpur]
  convert Relation.ReflTransGen.single hmove using 2
  simp [spurIdents, recordsOf]

theorem handlerFollows_spurRestore : HandlerFollows reqSpurRestore := fun p s => by
  have hrestore : ∀ i, Follows s (s.restoreSpur i) := fun i =>
    .ite (.of_eq ((recordsOf_reTest _).trans (recordsOf_modSpur_same fun _ => rfl))) (follows_loseFront ..)
  unfold reqSpurRestore
  split
  · split
    · exact .refl s
    · split
      · exact hrestore _
      · exact .refl s
  · exact .refl s

theorem handlerFollows_bayClear : HandlerFollows reqBayClear := fun p s => by
  unfold reqBayClear
  split
  · split
    · exact .refl s
    · split
      · exact .refl s
      · exact follows_takeMany ..
  · exact .refl s

theorem handlerFollows_counterSetup : HandlerFollows reqCounterSetup := fun p s => by
  unfold reqCounterSetup
  repeat' split
  all_goals exact .of_eq rfl

theorem handlerFollows_counterClear : HandlerFollows reqCounterClear := fun p s => by
  unfold reqCounterClear
  repeat' split
  all_goals exact .of_eq rfl

theorem handlerFollows_start : HandlerFollows reqStart := fun p s => by
  unfold reqStart
  split
  · exact .refl s
  · split
    · exact .refl s
    · split
      · exact .refl s
      · split
        · exact .refl s
        · exact .of_eq (recordsOf_startNode s)

theorem handlerFollows_halt : HandlerFollows reqHalt := fun p s => by
  unfold reqHalt
  split
  · exact .refl s
  · split
    · exact .refl s
    · exact .refl s
    · exact .of_eq ((recordsOf_reTest _).trans (recordsOf_enterHalt ..))

theorem handlerFollows_resume : HandlerFollows reqResume := fun p s => by
  unfold reqResume
  split
  · exact .refl s
  split
  · exact .refl s
  split
  · exact .refl s
  · exact .of_eq (recordsOf_resumeNode s)

theorem handlerFollows_config : HandlerFollows reqConfig := fun p s => by
  unfold reqConfig
  split
  · exact .refl s
  · split
    · exact .refl s
    · exact follows_enterConfig s

theorem handlerFollows_handlerOf (kind : Byte) : HandlerFollows (handlerOf kind) := by
  unfold handlerOf
  split
  · exact handlerFollows_of_read reqInquire_state
  · exact handlerFollows_setParameters
  · exact handlerFollows_of_read reqReadParameters_state
  · exact handlerFollows_routeWrite
  · exact handlerFollows_routeCommit
  · exact handlerFollows_of_read reqRouteRead_state
  · exact handlerFollows_spurNotice
  · exact handlerFollows_spurRestore
  · exact handlerFollows_bayClear
  · exact handlerFollows_of_read reqListRead_state
  · exact handlerFollows_counterSetup
  · exact handlerFollows_of_read reqCounterRead_state
  · exact handlerFollows_counterClear
  · exact handlerFollows_start
  · exact handlerFollows_halt
  · exact handlerFollows_resume
  · exact handlerFollows_config
  · exact handlerFollows_of_read reqNodeReset_state
  · exact handlerFollows_of_read fun _ _ => rfl

/-! ### The delivery of frames (R163, R166 to R168) -/

theorem follows_serve {op : Handler} (hop : HandlerFollows op) (kind : Byte) (q : Request) (s : State) :
    Follows s (s.serve op kind q) :=
  .ite (.of_eq rfl) ((hop q.payload s).keep rfl)

theorem follows_broadcastRequest {op : Handler} (hop : HandlerFollows op) (kind : Byte) (q : Request) (s : State) :
    Follows s (s.broadcastRequest op kind q) := by
  unfold State.broadcastRequest
  split
  · exact .of_eq rfl
  · have hcarried : Follows s (if broadcastKind kind then (op q.payload s).1 else s) := .ite (hop q.payload s) (.refl s)
    exact hcarried.keep (recordsOf_forward ..)

theorem follows_requestArrives {op : Handler} (hop : HandlerFollows op) (kind : Byte) (q : Request) (s : State) :
    Follows s (s.requestArrives op kind q) :=
  Follows.trans (.of_eq (recordsOf_frameArrives q.port s))
    (.ite (.of_eq rfl) (.ite (follows_broadcastRequest hop kind q _) (follows_serve hop kind q _)))

theorem follows_deliver (p : Port) (f : Frame) (s : State) : Follows s (s.deliver p f) := by
  have hop := handlerFollows_handlerOf f.kind
  have hdrop : ∀ q, Follows s (s.offerDrop q) := fun _ => .of_eq rfl
  have hforward : ∀ q, Follows s (s.forward q f) := fun q => .of_eq (recordsOf_forward q f s)
  unfold State.deliver
  refine .ite (.ite (follows_serve hop _ _ s) (hdrop p)) (.ite ?_ (.ite ?_ (.ite (follows_broadcastRequest hop _ _ s) (hforward _))))
  · cases p with
    | U => exact hdrop .U
    | D => exact hforward .U
  · cases p with
    | U => exact .ite (follows_noticeFrameIn f.payload s) (hdrop .U)
    | D => exact .ite (follows_creditFrameIn f.payload s) (hdrop .D)

theorem follows_wholeFrame (p : Port) (f : Frame) (s : State) : Follows s (s.wholeFrame p f) :=
  Follows.trans (.of_eq (recordsOf_frameArrives p s)) (.ite (.of_eq rfl) (follows_deliver p f _))

theorem follows_lineChar (p : Port) (s : State) (c : LineChar) : Follows s (s.lineChar p c) := by
  have hrx : Follows s (s.modPort p fun y => { y with rx := (rxChar (s.lines.get p).rx c).1 }) :=
    .of_eq (recordsOf_modPort ..)
  unfold State.lineChar
  simp only []
  split
  · exact hrx
  · exact hrx.keep (recordsOf_offer ..)
  · exact (hrx.trans (follows_deliver ..)).keep (recordsOf_finish _)

theorem follows_lineChars (p : Port) (cs : List LineChar) (s : State) : Follows s (cs.foldl (State.lineChar p) s) := by
  induction cs generalizing s with
  | nil => exact .refl s
  | cons c cs ih => exact (follows_lineChar p s c).trans (ih _)

/-! ### The belt (R1 to R9, R80) -/

theorem recordsOf_withPos (q : PositionUnit) (s : State) : recordsOf { s with pos := q } = recordsOf s := rfl

theorem follows_forwardTransition (s : State) : Follows s s.forwardTransition := by
  unfold State.forwardTransition
  split
  · exact (Follows.of_eq (recordsOf_withPos _ s)).trans (follows_positionChange _)
  · exact .of_eq (recordsOf_withPos _ s)

theorem follows_reverseTransition (s : State) : Follows s s.reverseTransition := by
  unfold State.reverseTransition
  split
  · exact (Follows.of_eq (recordsOf_withPos _ s)).trans (follows_positionChange _)
  · exact .of_eq (recordsOf_withPos _ s)

theorem recordsOf_invalidTransition (s : State) : recordsOf s.invalidTransition = recordsOf s := by
  rw [Belt.invalidTransition_eq]
  split
  · exact (recordsOf_reTest _).trans (recordsOf_enterHalt ..)
  · rfl

theorem follows_encoderSample (now : Bool × Bool) (s : State) : Follows s (s.encoderSample now) := by
  have hsampled : Follows s { s with pos := { s.pos with encPrev := some now } } := .of_eq (recordsOf_withPos _ s)
  unfold State.encoderSample
  simp only []
  split
  · exact hsampled
  · split
    · exact hsampled.trans (follows_forwardTransition _)
    · exact hsampled.trans (follows_reverseTransition _)
    · exact hsampled.keep (recordsOf_invalidTransition _)
    · exact hsampled

theorem follows_takeSample (s : State) : Follows s s.takeSample := by
  have hhalt : recordsOf (Belt.haltOnStall s) = recordsOf s := by
    unfold Belt.haltOnStall
    split
    · exact recordsOf_enterHalt ..
    · rfl
  have haimed : recordsOf (Belt.retargeted (Belt.haltOnStall s)) = recordsOf (Belt.haltOnStall s) := by
    refine recordsOf_eq rfl ?_ (fun _ => rfl) (fun _ => rfl) rfl rfl rfl
    simp only [Belt.retargeted, List.map_map]
    refine List.map_congr_left fun t _ => ?_
    simp only [Function.comp, aimed]
    split <;> rfl
  have hdivert : ∀ x : State, recordsOf (x.divertTests State.testArmed) = recordsOf x :=
    recordsOf_divertTests recordsOf_testArmed ident_testArmed
  rw [Belt.takeSample_eq]
  exact .of_eq ((recordsOf_reTest _).trans ((recordsOf_claims _).trans ((hdivert _).trans (haimed.trans hhalt))))

/-! ### The commands -/

theorem recordsOf_withCredit (c : CreditUnit) (s : State) : recordsOf { s with credit := c } = recordsOf s := rfl

theorem addressOf_range (straps : BitVec 6) : 1 ≤ addressOf straps ∧ addressOf straps ≤ 61 := by
  unfold addressOf; split <;> omega

theorem follows_resetPart (s : State) : Follows s s.resetPart := by
  obtain ⟨hone, hmax⟩ := addressOf_range s.inputs.straps
  exact .single (Move.reset hone hmax)

theorem follows_ownerOf (i : EyeId) (b : Bool) (e : Edge) (s : State) : Follows s (Belt.ownerOf i b e s) := by
  cases i <;> cases b
  · exact follows_entryTrailing e s
  · exact follows_entryLeading e s
  · exact follows_gateCleared _ e s
  · exact follows_gateBlocked _ s
  · exact .of_eq (recordsOf_confirmCleared ..)
  · exact follows_confirmBlocked ..
  · exact follows_frontCleared ..
  · exact .refl s

theorem follows_onExpiry {timer : Timer} {act : State → State} {s t : State} (h : s.onExpiry timer act = .next t)
    (hact : recordsOf (act s) = recordsOf s) : Follows s t := by
  obtain rfl := Host.Outcome.next.inj h
  exact .ite (.of_eq ((recordsOf_finish _).trans hact)) (.refl s)

theorem follows_releaseTimerExpiry {i : Ix} {s t : State} (h : execReleaseTimerExpiry i s = .next t) : Follows s t := by
  have hidle : ∀ x : State, recordsOf (x.modSpur i fun y => { y with releaseTimer := none }) = recordsOf x := fun x =>
    recordsOf_modSpur_same fun _ => rfl
  unfold execReleaseTimerExpiry at h
  exact follows_onExpiry h ((recordsOf_reTest _).trans ((hidle _).trans (recordsOf_stickSpur ..)))

theorem recordsOf_chuteJammed (k : Ix) (s : State) : recordsOf (s.chuteJammed k) = recordsOf s := by
  have hjammed : recordsOf (s.modBay k fun b => { b with chuteJam := none, blocked := true }) = recordsOf s :=
    recordsOf_modBay_same fun _ => rfl
  unfold State.chuteJammed
  simp only []
  split
  · exact hjammed
  · exact (recordsOf_report ..).trans hjammed

theorem follows_edge {i : EyeId} {b : Bool} {s t : State} (h : exec (edgeOf i b) s = .next t) : Follows s t := by
  by_cases hnone : noEdge i b s
  · rw [Belt.exec_edgeOf, Belt.edge_of_noEdge hnone] at h
    obtain rfl := Host.Outcome.next.inj h
    exact .refl _
  · obtain ⟨e, u, hu⟩ := Belt.exists_edgeTaken hnone
    rw [Belt.exec_of_edgeTaken hu] at h
    obtain rfl := Host.Outcome.next.inj h
    exact (Follows.trans (.of_eq (recordsOf_edgeTaken hu)) (follows_ownerOf i b e u)).keep (recordsOf_finish _)

theorem follows_eStopAssertion {s t : State} (h : execEStopAssertion s = .next t) : Follows s t := by
  obtain rfl := Host.Outcome.next.inj h
  refine .of_eq ?_
  split
  · rfl
  · split
    · exact (recordsOf_finish _).trans ((recordsOf_reTest _).trans (recordsOf_enterHalt ..))
    · exact recordsOf_finish _

theorem follows_exec {c : Instr} {s t : State} (h : exec c s = .next t) : Follows s t := by
  have finished : ∀ {x : State}, Follows s x → (Host.Outcome.next x.finish : Result) = .next t → Follows s t := fun hx hn => by
    obtain rfl := Host.Outcome.next.inj hn
    exact hx.keep (recordsOf_finish _)
  have request : ∀ {op : Handler}, HandlerFollows op → ∀ kind q,
      (Host.Outcome.next (s.requestArrives op kind q).finish : Result) = .next t → Follows s t :=
    fun hop kind q => finished (follows_requestArrives hop kind q s)
  have framed : ∀ {p : Port} {act : State → State}, (∀ x, Follows x (act x)) →
      (Host.Outcome.next (act (s.frameArrives p)).finish : Result) = .next t → Follows s t :=
    fun hact => finished (Follows.trans (.of_eq (recordsOf_frameArrives _ s)) (hact _))
  have whole : ∀ p f, (Host.Outcome.next (s.wholeFrame p f).finish : Result) = .next t → Follows s t :=
    fun p f => finished (follows_wholeFrame p f s)
  have hreset : (Host.Outcome.next s.resetPart : Result) = .next t → Follows s t := fun hn => by
    obtain rfl := Host.Outcome.next.inj hn
    exact follows_resetPart s
  cases c with
  | entryEyeBlocked => exact follows_edge (i := .entry) (b := true) h
  | entryEyeClear => exact follows_edge (i := .entry) (b := false) h
  | gateEyeBlocked j => exact follows_edge (i := .gate j) (b := true) h
  | gateEyeClear j => exact follows_edge (i := .gate j) (b := false) h
  | confirmEyeBlocked k => exact follows_edge (i := .confirm k) (b := true) h
  | confirmEyeClear k => exact follows_edge (i := .confirm k) (b := false) h
  | frontEyeBlocked k => exact follows_edge (i := .front k) (b := true) h
  | frontEyeClear k => exact follows_edge (i := .front k) (b := false) h
  | powerOn | resetPin => exact hreset h
  | inquire q => exact request (handlerFollows_of_read reqInquire_state) _ q h
  | setParameters q => exact request handlerFollows_setParameters _ q h
  | readParameters q => exact request (handlerFollows_of_read reqReadParameters_state) _ q h
  | routeWrite q => exact request handlerFollows_routeWrite _ q h
  | routeCommit q => exact request handlerFollows_routeCommit _ q h
  | routeRead q => exact request (handlerFollows_of_read reqRouteRead_state) _ q h
  | spurNotice q => exact request handlerFollows_spurNotice _ q h
  | spurRestore q => exact request handlerFollows_spurRestore _ q h
  | bayClear q => exact request handlerFollows_bayClear _ q h
  | listRead q => exact request (handlerFollows_of_read reqListRead_state) _ q h
  | counterSetup q => exact request handlerFollows_counterSetup _ q h
  | counterRead q => exact request (handlerFollows_of_read reqCounterRead_state) _ q h
  | counterClear q => exact request handlerFollows_counterClear _ q h
  | start q => exact request handlerFollows_start _ q h
  | halt q => exact request handlerFollows_halt _ q h
  | resume q => exact request handlerFollows_resume _ q h
  | config q => exact request handlerFollows_config _ q h
  | nodeReset q => exact request (handlerFollows_of_read reqNodeReset_state) _ q h
  | nodeResetTakesEffect p =>
    obtain rfl := Host.Outcome.next.inj h
    exact .ite (follows_resetPart s) (.refl s)
  | unknownKindRequest kind q =>
    obtain rfl := Host.Outcome.next.inj h
    refine .ite ((follows_requestArrives (handlerFollows_handlerOf kind) kind q s).keep (recordsOf_finish _)) (.of_eq ?_)
    exact (recordsOf_finish _).trans (recordsOf_frameArrives q.port s)
  | notice payload => exact framed (follows_noticeArrives payload) h
  | creditSync value => exact framed (follows_takeSync value) h
  | creditLocked g r => exact framed (follows_takeLocked g r) h
  | frameForward p f | frameDrop p f => exact whole p f h
  | frameAbandon p cs => exact finished (follows_lineChars p cs s) h
  | tagRead cs | badTagRead cs => exact finished (.of_eq (recordsOf_tagChars cs s)) h
  | encoderTransition a b => exact finished (follows_encoderSample (a, b) s) h
  | eStopAssertion => exact follows_eStopAssertion h
  | eStopRelease =>
    obtain rfl := Host.Outcome.next.inj h
    exact .ite (.of_eq (recordsOf_finish _)) (.refl s)
  | speedSample => exact finished (follows_takeSample s) h
  | paddlePulseExpiry k | chimeExpiry k | lampStepExpiry k => exact follows_onExpiry h (recordsOf_modBay_same fun _ => rfl)
  | gatePulseExpiry i => exact follows_onExpiry h (recordsOf_modSpur_same fun _ => rfl)
  | releaseTimerExpiry i => exact follows_releaseTimerExpiry h
  | chuteJamExpiry k => exact follows_onExpiry h (recordsOf_chuteJammed k s)
  | creditRefresh => exact finished (.of_eq (recordsOf_withCredit { s.credit.request 1 with refresh := some 50 } s)) h
  | millisecondTick => exact finished (.of_eq (recordsOf_tick s)) h
  | frameSent p =>
    obtain rfl := Host.Outcome.next.inj h
    split
    · exact .refl s
    · exact .ite (follows_resetPart s) (.of_eq (recordsOf_finish _))

/-- Every step changes the totes of a state by moves. -/
theorem follows_step {s t : State} (h : step s = .next t) : Follows s t := by
  unfold step at h
  split at h
  · obtain rfl := Host.Outcome.next.inj h
    exact .of_eq (recordsOf_samplePeriod s)
  · next rest _ =>
    have hpopped : recordsOf { s with pending := rest } = recordsOf s := rfl
    exact (Follows.of_eq hpopped).trans (follows_exec h)

/-- What every move keeps, every step keeps. -/
theorem invariant_of_step {p : Records → Prop} (h : ∀ {r r' : Records}, Move r r' → p r → p r') {s t : State}
    (hstep : step s = .next t) (hs : p (recordsOf s)) : p (recordsOf t) :=
  invariant_of_moves h (follows_step hstep) hs

end Sys2Proof.Totes
end

section
/-! The capacities, the announced tags and the identity fields: what every move keeps (R24 to R34, R61, R62). -/

namespace Sys2Proof.Totes

open Sys2Proof.Machine Sys2Proof.Safety

/-! ### One spur, one lane -/

theorem spur_setSpur (r : Records) (i j : Ix) (l : List Ident) :
    (r.setSpur i l).spur j = if j = i then l else r.spur j := Function.update_apply ..

theorem lane_atLane (r : Records) (k j : Ix) (f : Lane → Lane) :
    (r.atLane k f).lane j = if j = k then f (r.lane k) else r.lane j := Function.update_apply ..

/-- What holds of every spur list holds after one is set, where it holds of the new one. -/
theorem forall_setSpur {p : List Ident → Prop} {r : Records} {i : Ix} {l : List Ident} (hr : ∀ j, p (r.spur j)) (hl : p l)
    (j : Ix) : p ((r.setSpur i l).spur j) := by
  rw [spur_setSpur]
  split
  · exact hl
  · exact hr j

/-- What holds of every lane holds after a change of one, where the change keeps it. -/
theorem forall_atLane {p : Lane → Prop} {r : Records} {k : Ix} {f : Lane → Lane} (hr : ∀ j, p (r.lane j))
    (hf : p (f (r.lane k))) (j : Ix) : p ((r.atLane k f).lane j) := by
  rw [lane_atLane]
  split
  · exact hf
  · exact hr j

/-- A counted landing appends the record to its lane and touches no other list. -/
theorem landing_countMember (k j : Ix) (x : LandingRec) (e : GroupEntry) (r : Records) :
    ((r.countMember k x e).lane j).landing = ((r.atLane k (Lane.land x)).lane j).landing := by
  unfold Records.countMember
  simp only []
  split <;> rfl

/-- Of a counted member the front of its lane goes and no other list changes. -/
theorem landing_takeMember (k j : Ix) (e : GroupEntry) (r : Records) :
    ((r.takeMember k e).lane j).landing = ((r.atLane k Lane.next).lane j).landing := by
  by_cases hj : j = k
  · subst hj
    simp only [Records.takeMember, lane_atLane_self]
    split <;> rfl
  · simp [Records.takeMember, Records.atLane, hj]

/-! ### Capacities (R29 to R33, R61) -/

def Records.fits (r : Records) : Prop :=
  r.expected.length ≤ 16 ∧ r.zone.length ≤ 24 ∧ (∀ i, (r.spur i).length ≤ 6) ∧ (∀ k, (r.lane k).landing.length ≤ 8) ∧
    r.groups.length ≤ 8 ∧ bankFits r.active ∧ bankFits r.standby

theorem listsFit_iff (s : State) : ListsFit s ↔ (recordsOf s).fits := by
  simp [ListsFit, Records.fits, Ix.forall_all, recordsOf, spurIdents, laneOf]

theorem bankFits_replaceFrom {first : Nat} {es bank : List RouteEntry} (hfits : first + es.length ≤ 128)
    (hpass : first = 0 → es.head? = some .pass) (h : bankFits bank) : bankFits (replaceFrom first es bank) := by
  obtain ⟨hlength, hhead⟩ := h
  unfold replaceFrom
  refine ⟨by simp; omega, ?_⟩
  cases first with
  | zero => simp [hpass rfl]
  | succ n =>
    cases bank with
    | nil => cases hhead
    | cons b bank => simpa using hhead

theorem length_groupsWithout_le (k : Ix) (e : GroupEntry) (gs : List GroupEntry) :
    (Records.groupsWithout k e gs).length ≤ gs.length := by
  have hreplaced : (replaceGroup (e.take k) gs).length = gs.length := List.length_map ..
  unfold Records.groupsWithout
  split
  · exact (List.length_filter_le ..).trans hreplaced.le
  · exact hreplaced.le

theorem resetListsFit : ListsFit State.reset := by
  unfold ListsFit bankFits
  decide +kernel

theorem fits_move {r r' : Records} (h : Move r r') (hr : r.fits) : r'.fits := by
  obtain ⟨hexpected, hzone, hspur, hlane, hgroups, hactive, hstandby⟩ := hr
  have lanes : ∀ {k f}, (f (r.lane k)).landing.length ≤ 8 → ∀ j, ((r.atLane k f).lane j).landing.length ≤ 8 :=
    forall_atLane (p := fun l => l.landing.length ≤ 8) hlane
  have landed : ∀ {k x}, (r.lane k).landing.length < 8 → ((r.lane k).land x).landing.length ≤ 8 := fun hroom => by
    simpa [Lane.land] using hroom
  have taken : ∀ k, (r.lane k).next.landing.length ≤ 8 := fun k => by
    simpa [Lane.next] using (hlane k).trans (Nat.le_succ 8)
  cases h with
  | shrink he hz hs =>
    exact ⟨he.length_le.trans hexpected, hz.length_le.trans hzone, fun i => (hs i).length_le.trans (hspur i), hlane, hgroups,
      hactive, hstandby⟩
  | notice room new sound => exact ⟨by simpa using room, hzone, hspur, hlane, hgroups, hactive, hstandby⟩
  | spurNotice room new sound origin =>
    exact ⟨hexpected, hzone, forall_setSpur (p := fun l => l.length ≤ 6) hspur (by simpa using room), hlane, hgroups, hactive,
      hstandby⟩
  | spurStray none =>
    exact ⟨hexpected, hzone, forall_setSpur (p := fun l => l.length ≤ 6) hspur (by simp), hlane, hgroups, hactive, hstandby⟩
  | enter room source perm =>
    exact ⟨hexpected, by simpa [perm.length_eq] using room, hspur, hlane, hgroups, hactive, hstandby⟩
  | landSingle room single expected => exact ⟨hexpected, hzone, hspur, lanes (landed room), hgroups, hactive, hstandby⟩
  | landUnexpected room => exact ⟨hexpected, hzone, hspur, lanes (landed room), hgroups, hactive, hstandby⟩
  | openGroup room source part new => exact ⟨hexpected, hzone, hspur, hlane, by simpa using room, hactive, hstandby⟩
  | landMember room source part same expected entry id wanted =>
    refine ⟨hexpected, hzone, hspur, fun j => ?_, (List.length_map ..).trans_le hgroups, hactive, hstandby⟩
    rw [landing_countMember]
    exact lanes (landed room) j
  | takeUncounted front uncounted => exact ⟨hexpected, hzone, hspur, lanes (taken _), hgroups, hactive, hstandby⟩
  | takeSingle front single expected => exact ⟨hexpected, hzone, hspur, lanes (taken _), hgroups, hactive, hstandby⟩
  | takeMember front part expected entry id =>
    refine ⟨hexpected, hzone, hspur, fun j => ?_, (length_groupsWithout_le ..).trans hgroups, hactive, hstandby⟩
    rw [landing_takeMember]
    exact lanes (taken _) j
  | writeRoutes fits pass => exact ⟨hexpected, hzone, hspur, hlane, hgroups, hactive, bankFits_replaceFrom fits pass hstandby⟩
  | commitRoutes => exact ⟨hexpected, hzone, hspur, hlane, hgroups, hstandby, hstandby⟩
  | reset one max =>
    exact (listsFit_iff State.reset).mp resetListsFit

/-- Settles O49: every move keeps the lists within their capacities and the banks whole. -/
theorem stepsKeepListsWithinCapacity : Obligations.StepsKeepListsWithinCapacity := by
  unfold Obligations.StepsKeepListsWithinCapacity
  intro s t hs hstep
  exact (listsFit_iff t).mpr (invariant_of_step fits_move hstep ((listsFit_iff s).mp hs))

/-! ### Announced tags (R34) -/

/-- No nonzero tag stands twice among the announced totes. -/
def Records.uniqueTags (r : Records) : Prop := (r.tags.filter fun t => decide (t ≠ 0)).Nodup

theorem tagsUnique_iff (s : State) : TagsUnique s ↔ (recordsOf s).uniqueTags := by
  simp [TagsUnique, announcedTags, Records.uniqueTags, Records.tags, recordsOf, spurIdents, List.map_map, Function.comp_def]

/-- A tag announced beside others, unless it is 0 or stands among them, leaves them unique. -/
theorem nodup_filter_of_perm {tags tags' : List (BitVec 32)} {tag : BitVec 32} (hperm : tags'.Perm (tag :: tags))
    (hnew : tag ≠ 0 → tag ∉ tags) (h : (tags.filter fun t => decide (t ≠ 0)).Nodup) :
    (tags'.filter fun t => decide (t ≠ 0)).Nodup := by
  rw [(hperm.filter _).nodup_iff, List.filter_cons]
  split
  · next hz => exact List.nodup_cons.mpr ⟨fun hmem => hnew (of_decide_eq_true hz) (List.mem_of_mem_filter hmem), h⟩
  · exact h

theorem tags_sublist {r r' : Records} (hexpected : r'.expected.Sublist r.expected) (hspur : ∀ i, (r'.spur i).Sublist (r.spur i)) :
    r'.tags.Sublist r.tags := by
  simp only [Records.tags, Ix.all, List.flatMap_cons, List.flatMap_nil]
  exact (hexpected.map _).append (((hspur .i0).map _).append (((hspur .i1).map _).append (((hspur .i2).map _).append .slnil)))

/-- A tote announced at the back of one spur list. -/
theorem tags_spurNotice (r : Records) (i : Ix) (d : Ident) :
    (r.setSpur i (r.spur i ++ [d])).tags.Perm (d.tag :: r.tags) := by
  rw [List.perm_iff_count]
  intro tag
  cases i <;>
    · simp [Records.tags, Ix.all, Records.setSpur, List.count_cons]
      omega

theorem uniqueTags_move {r r' : Records} (h : Move r r') (hr : r.uniqueTags) : r'.uniqueTags := by
  have sublist : r'.tags.Sublist r.tags → r'.uniqueTags := fun hsub => hr.sublist (hsub.filter _)
  have same : r'.tags = r.tags → r'.uniqueTags := fun heq => sublist (heq ▸ List.Sublist.refl _)
  have announced : ∀ {d : Ident}, r'.tags.Perm (d.tag :: r.tags) → (d.tag ≠ 0 → d.tag ∉ r.tags) → r'.uniqueTags :=
    fun hperm hnew => nodup_filter_of_perm hperm hnew hr
  cases h with
  | shrink he hz hs => exact sublist (tags_sublist he hs)
  | notice room new sound =>
    refine announced ?_ new
    simp only [Records.tags, List.map_append, List.map_cons, List.map_nil, List.append_assoc]
    exact List.perm_middle
  | spurNotice room new sound origin => exact announced (tags_spurNotice ..) new
  | spurStray none =>
    rename_i i
    have hperm := tags_spurNotice r i (strayIdent 0 r.address)
    rw [none, List.nil_append] at hperm
    exact announced hperm fun h => absurd rfl h
  | enter | landSingle | landUnexpected | openGroup | landMember | takeUncounted | takeSingle | takeMember | writeRoutes
  | commitRoutes => exact same rfl
  | reset one max => exact sublist (List.nil_sublist _)

/-- Settles O54: a tag is announced only where it is 0 or not announced yet. -/
theorem stepsKeepAnnouncedTagsUnique : Obligations.StepsKeepAnnouncedTagsUnique := by
  unfold Obligations.StepsKeepAnnouncedTagsUnique
  intro s t hs hstep
  exact (tagsUnique_iff t).mpr (invariant_of_step uniqueTags_move hstep ((tagsUnique_iff s).mp hs))

/-! ### Identity fields (R24, R25, R165) -/

def Records.soundIdents (r : Records) : Prop :=
  (∀ d ∈ r.expected, identSound d) ∧ (∀ d ∈ r.zone, identSound d) ∧ (∀ i, ∀ d ∈ r.spur i, identSound d) ∧
    (∀ k, ∀ x ∈ (r.lane k).landing, ∀ g ∈ x.group, groupSound g) ∧ 1 ≤ r.address ∧ r.address ≤ 61

theorem identsSound_iff (s : State) : IdentsSound s ↔ (recordsOf s).soundIdents := by
  simp [IdentsSound, Records.soundIdents, Ix.forall_all, recordsOf, spurIdents, laneOf]

theorem identSound_strayIdent {address : Nat} (h : address ≤ 61) (tag : BitVec 32) : identSound (strayIdent tag address) :=
  ⟨nofun, h⟩

theorem soundIdents_move {r r' : Records} (h : Move r r') (hr : r.soundIdents) : r'.soundIdents := by
  obtain ⟨hexpected, hzone, hspur, hlane, hone, hmax⟩ := hr
  have lanes : ∀ {k f}, (∀ x ∈ (f (r.lane k)).landing, ∀ g ∈ x.group, groupSound g) →
      ∀ j, ∀ x ∈ ((r.atLane k f).lane j).landing, ∀ g ∈ x.group, groupSound g :=
    forall_atLane (p := fun l => ∀ x ∈ l.landing, ∀ g ∈ x.group, groupSound g) hlane
  have landed : ∀ {k} {x : LandingRec}, (∀ g ∈ x.group, groupSound g) →
      ∀ y ∈ ((r.lane k).land x).landing, ∀ g ∈ y.group, groupSound g := fun {k x} hx y hy => by
    rcases List.mem_append.mp hy with hy | hy
    · exact hlane k y hy
    · rw [List.mem_singleton.mp hy]
      exact hx
  have taken : ∀ k, ∀ x ∈ (r.lane k).next.landing, ∀ g ∈ x.group, groupSound g := fun k x hx =>
    hlane k x (List.mem_of_mem_tail hx)
  cases h with
  | shrink he hz hs =>
    exact ⟨fun d hd => hexpected d (he.subset hd), fun d hd => hzone d (hz.subset hd),
      fun i d hd => hspur i d ((hs i).subset hd), hlane, hone, hmax⟩
  | notice room new sound =>
    refine ⟨fun d hd => ?_, hzone, hspur, hlane, hone, hmax⟩
    rcases List.mem_append.mp hd with hd | hd
    · exact hexpected d hd
    · rw [List.mem_singleton.mp hd]
      exact sound
  | spurNotice room new sound origin =>
    refine ⟨hexpected, hzone, forall_setSpur (p := fun l => ∀ d ∈ l, identSound d) hspur fun d hd => ?_, hlane, hone, hmax⟩
    rcases List.mem_append.mp hd with hd | hd
    · exact hspur _ d hd
    · rw [List.mem_singleton.mp hd]
      exact ⟨sound, origin.trans_le hmax⟩
  | spurStray none =>
    refine ⟨hexpected, hzone, forall_setSpur (p := fun l => ∀ d ∈ l, identSound d) hspur fun d hd => ?_, hlane, hone, hmax⟩
    rw [List.mem_singleton.mp hd]
    exact identSound_strayIdent hmax 0
  | enter room source perm =>
    refine ⟨hexpected, fun d hd => ?_, hspur, hlane, hone, hmax⟩
    rcases List.mem_cons.mp (perm.mem_iff.mp hd) with rfl | hd
    · rcases source with hmem | ⟨i, hmem⟩ | ⟨tag, rfl⟩
      · exact hexpected _ hmem
      · exact hspur i _ hmem
      · exact identSound_strayIdent hmax tag
    · exact hzone d hd
  | landSingle room single expected =>
    exact ⟨hexpected, hzone, hspur, lanes (landed (by rw [single]; exact nofun)), hone, hmax⟩
  | landUnexpected room => exact ⟨hexpected, hzone, hspur, lanes (landed nofun), hone, hmax⟩
  | openGroup | writeRoutes | commitRoutes => exact ⟨hexpected, hzone, hspur, hlane, hone, hmax⟩
  | landMember room source part same expected entry id wanted =>
    refine ⟨hexpected, hzone, hspur, fun j => ?_, hone, hmax⟩
    rw [landing_countMember]
    exact lanes (landed (by rw [same, ← part]; exact (hzone _ source).1)) j
  | takeUncounted front uncounted => exact ⟨hexpected, hzone, hspur, lanes (taken _), hone, hmax⟩
  | takeSingle front single expected => exact ⟨hexpected, hzone, hspur, lanes (taken _), hone, hmax⟩
  | takeMember front part expected entry id =>
    refine ⟨hexpected, hzone, hspur, fun j => ?_, hone, hmax⟩
    rw [landing_takeMember]
    exact lanes (taken _) j
  | reset one max => exact ⟨nofun, nofun, fun i => by cases i <;> exact nofun, fun k => by cases k <;> exact nofun, one, max⟩

/-- Settles O55: what enters is decoded into its ranges or is a stray's, and what moves on is a tote held before. -/
theorem stepsKeepIdentitiesInRange : Obligations.StepsKeepIdentitiesInRange := by
  unfold Obligations.StepsKeepIdentitiesInRange
  intro s t hs hstep
  exact (identsSound_iff t).mpr (invariant_of_step soundIdents_move hstep ((identsSound_iff s).mp hs))

end Sys2Proof.Totes
end

section
/-! The group table, the landing lists and the ready counts: what every move keeps (R33, R121 to R127). -/

namespace Sys2Proof.Totes

open Sys2Proof.Machine Sys2Proof.Safety

/-! ### The law, lane by lane -/

/-- The members of group `id` in a lane. -/
def members (id : Nat) (l : Lane) : Nat := (l.landing.filter (memberOf id)).length

/-- The orders a ready count counts: all of them, or those of class RUSH. -/
def counted (rush : Bool) (c : Cls) : Bool := !rush || c.isRush

/-- The single-tote orders in a lane that a ready count counts (R121). -/
def singles (rush : Bool) (l : Lane) : Nat := (l.landing.filter fun x => singleOrder x && counted rush x.cls).length

/-- The ready count of a lane, or its RUSH part. -/
def Lane.tally (rush : Bool) (l : Lane) : Nat := if rush then l.rushReady else l.ready

/-- A complete order has a tote at bay k and is one that the ready count counts (R121). -/
def readyAt (k : Ix) (rush : Bool) (e : GroupEntry) : Bool := e.ready && decide (0 < e.untaken.get k) && counted rush e.cls

/-- A group entry's counts against the lanes (R33, R127). -/
def EntryAgrees (lane : Ix → Lane) (e : GroupEntry) : Prop :=
  e.taken ≤ e.landed ∧ e.landed ≤ e.count ∧ (e.ready = true ↔ e.landed = e.count) ∧
    e.untaken.x0 + e.untaken.x1 + e.untaken.x2 + e.taken = e.landed ∧ ∀ k, e.untaken.get k = members e.id (lane k)

theorem EntryAgrees.notReady {lane : Ix → Lane} {e : GroupEntry} (h : EntryAgrees lane e) (hroom : e.landed ≠ e.count) :
    e.ready = false := by
  obtain ⟨_, _, hfull, _⟩ := h
  exact Bool.eq_false_iff.mpr fun hr => hroom (hfull.mp hr)

/-- The lanes and the group table agree. -/
structure Assembled (lane : Ix → Lane) (groups : List GroupEntry) : Prop where
  ids : (groups.map GroupEntry.id).Nodup
  entries : ∀ e ∈ groups, EntryAgrees lane e
  parts : ∀ k, ∀ x ∈ (lane k).landing, ∀ g ∈ x.group, x.unexpected = false ∧ g.id ∈ groups.map GroupEntry.id
  tallies : ∀ k rush, (lane k).tally rush = (groups.filter (readyAt k rush)).length + singles rush (lane k)

theorem assemblySound_iff (s : State) : AssemblySound s ↔ Assembled (recordsOf s).lane (recordsOf s).groups := by
  constructor
  · rintro ⟨hids, hentries, hparts, hready⟩
    refine ⟨hids, fun e he => ?_, fun k => hparts k (Ix.mem_all k), fun k rush => ?_⟩
    · obtain ⟨htaken, hlanded, hfull, hsum, huntaken⟩ := hentries e he
      exact ⟨htaken, hlanded, hfull, hsum, fun k => huntaken k (Ix.mem_all k)⟩
    · obtain ⟨hall, hrush⟩ := hready k (Ix.mem_all k)
      cases rush
      · exact hall
      · exact hrush
  · rintro ⟨hids, hentries, hparts, htallies⟩
    refine ⟨hids, fun e he => ?_, fun k _ => hparts k, fun k _ => ⟨htallies k false, htallies k true⟩⟩
    obtain ⟨htaken, hlanded, hfull, hsum, huntaken⟩ := hentries e he
    exact ⟨htaken, hlanded, hfull, hsum, fun k _ => huntaken k⟩

/-! ### One lane -/

theorem members_land (id : Nat) (x : LandingRec) (l : Lane) :
    members id (l.land x) = members id l + if memberOf id x = true then 1 else 0 := by
  simp only [members, Lane.land, List.filter_append, List.length_append, List.filter_cons, List.filter_nil]
  split <;> rfl

theorem singles_land (rush : Bool) (x : LandingRec) (l : Lane) :
    singles rush (l.land x) = singles rush l + if (singleOrder x && counted rush x.cls) = true then 1 else 0 := by
  simp only [singles, Lane.land, List.filter_append, List.length_append, List.filter_cons, List.filter_nil]
  split <;> rfl

section Front

variable {l : Lane} {x : LandingRec} {rest : List LandingRec} (h : l.landing = x :: rest)
include h

theorem members_of_front (id : Nat) : members id l = members id l.next + if memberOf id x = true then 1 else 0 := by
  simp only [members, Lane.next, h, List.filter_cons, List.tail_cons]
  split <;> rfl

theorem singles_of_front (rush : Bool) :
    singles rush l = singles rush l.next + if (singleOrder x && counted rush x.cls) = true then 1 else 0 := by
  simp only [singles, Lane.next, h, List.filter_cons, List.tail_cons]
  split <;> rfl

end Front

theorem tally_call (rush : Bool) (c : Cls) (l : Lane) :
    (l.call c).tally rush = l.tally rush + if counted rush c = true then 1 else 0 := by
  cases rush <;> rfl

theorem tally_collect (rush : Bool) (c : Cls) (l : Lane) :
    (l.collect c).tally rush = l.tally rush - if counted rush c = true then 1 else 0 := by
  cases rush <;> rfl

theorem memberOf_of_group {x : LandingRec} {g : GroupPart} (h : x.group = some g) (id : Nat) :
    memberOf id x = decide (g.id = id) := by
  simp [memberOf, h]

theorem memberOf_of_none {x : LandingRec} (h : x.group = none) (id : Nat) : memberOf id x = false := by
  simp [memberOf, h]

theorem group_of_memberOf {id : Nat} {x : LandingRec} (h : memberOf id x = true) : ∃ g, x.group = some g ∧ g.id = id := by
  cases hx : x.group with
  | none => rw [memberOf_of_none hx] at h; cases h
  | some g =>
    rw [memberOf_of_group hx] at h
    exact ⟨g, rfl, of_decide_eq_true h⟩

theorem singleOrder_of_group {x : LandingRec} {g : GroupPart} (h : x.group = some g) : singleOrder x = false := by
  simp [singleOrder, h]

/-! ### Changes of one lane that touch no group -/

/-- A lane changes in no group's members, and its ready counts with its single-tote orders. -/
theorem assembled_setLane {lane : Ix → Lane} {groups : List GroupEntry} {k : Ix} {l : Lane} (h : Assembled lane groups)
    (hmembers : ∀ id, members id l = members id (lane k))
    (hparts : ∀ x ∈ l.landing, ∀ g ∈ x.group, x ∈ (lane k).landing)
    (htally : ∀ rush, l.tally rush + singles rush (lane k) = (lane k).tally rush + singles rush l) :
    Assembled (Function.update lane k l) groups := by
  have members_update : ∀ id j, members id (Function.update lane k l j) = members id (lane j) := fun id j => by
    rw [Function.update_apply]
    split
    · next hj => rw [hj, hmembers]
    · rfl
  refine ⟨h.ids, fun e he => ?_, fun j x hx g hg => ?_, fun j rush => ?_⟩
  · obtain ⟨htaken, hlanded, hfull, hsum, huntaken⟩ := h.entries e he
    exact ⟨htaken, hlanded, hfull, hsum, fun j => (huntaken j).trans (members_update ..).symm⟩
  · rw [Function.update_apply] at hx
    split at hx
    · exact h.parts k x (hparts x hx g hg) g hg
    · exact h.parts j x hx g hg
  · rw [Function.update_apply]
    split
    · next hj =>
      have hk := h.tallies k rush
      have hl := htally rush
      rw [hj]
      omega
    · exact h.tallies j rush

theorem assembled_landSingle {lane : Ix → Lane} {groups : List GroupEntry} {k : Ix} {x : LandingRec}
    (hsingle : x.group = none) (hexpected : x.unexpected = false) (h : Assembled lane groups) :
    Assembled (Function.update lane k (((lane k).land x).call x.cls)) groups := by
  have horder : singleOrder x = true := by simp [singleOrder, hsingle, hexpected]
  refine assembled_setLane h (fun id => ?_) (fun y hy g hg => ?_) fun rush => ?_
  · refine (members_land id x (lane k)).trans ?_
    simp [memberOf_of_none hsingle]
  · rcases List.mem_append.mp hy with hy | hy
    · exact hy
    · rw [List.mem_singleton.mp hy, hsingle] at hg
      cases hg
  · have hland : singles rush (((lane k).land x).call x.cls) = _ := singles_land rush x (lane k)
    have hsame : ((lane k).land x).tally rush = (lane k).tally rush := rfl
    rw [hland, tally_call, hsame, horder, Bool.true_and]
    omega

theorem assembled_landUnexpected {lane : Ix → Lane} {groups : List GroupEntry} {k : Ix} (h : Assembled lane groups) :
    Assembled (Function.update lane k ((lane k).land unexpectedRec)) groups := by
  refine assembled_setLane h (fun id => ?_) (fun y hy g hg => ?_) fun rush => ?_
  · rw [members_land, memberOf_of_none rfl]
    rfl
  · rcases List.mem_append.mp hy with hy | hy
    · exact hy
    · rw [List.mem_singleton.mp hy] at hg
      cases hg
  · rw [singles_land]
    rfl

section Take

variable {lane : Ix → Lane} {groups : List GroupEntry} {k : Ix} {x : LandingRec} {rest : List LandingRec}
  (hfront : (lane k).landing = x :: rest)
include hfront

theorem assembled_takeUncounted (h : Assembled lane groups)
    (huncounted : x.unexpected = true ∨ ∃ g, x.group = some g ∧ ∀ e ∈ groups, e.id ≠ g.id) :
    Assembled (Function.update lane k (lane k).next) groups := by
  have hx : x ∈ (lane k).landing := by rw [hfront]; exact List.mem_cons_self
  have hunexpected : x.unexpected = true := huncounted.resolve_right fun ⟨g, hg, hnone⟩ => by
    obtain ⟨e, he, hid⟩ := List.mem_map.mp (h.parts k x hx g hg).2
    exact hnone e he hid
  have hnone : x.group = none := Option.eq_none_iff_forall_ne_some.mpr fun g hg => by
    rw [(h.parts k x hx g hg).1] at hunexpected
    cases hunexpected
  refine assembled_setLane h (fun id => ?_) (fun y hy g _ => List.mem_of_mem_tail hy) fun rush => ?_
  · rw [members_of_front hfront, memberOf_of_none hnone]
    rfl
  · have hsingle : singleOrder x = false := by simp [singleOrder, hunexpected]
    rw [singles_of_front hfront, hsingle]
    rfl

theorem assembled_takeSingle (h : Assembled lane groups) (hsingle : x.group = none) (hexpected : x.unexpected = false) :
    Assembled (Function.update lane k ((lane k).next.collect x.cls)) groups := by
  have horder : singleOrder x = true := by simp [singleOrder, hsingle, hexpected]
  refine assembled_setLane h (fun id => ?_) (fun y hy g _ => List.mem_of_mem_tail hy) fun rush => ?_
  · rw [members_of_front hfront id, memberOf_of_none hsingle]
    rfl
  · have hlaw := h.tallies k rush
    have hcollect : singles rush ((lane k).next.collect x.cls) = singles rush (lane k).next := rfl
    have hsame : (lane k).next.tally rush = (lane k).tally rush := rfl
    rw [singles_of_front hfront, horder, Bool.true_and] at hlaw
    rw [tally_collect, hcollect, hsame, singles_of_front hfront rush, horder, Bool.true_and]
    omega

end Take

/-! ### The group table -/

/-- A group's entry stands apart from the others. -/
theorem split_at_entry {groups : List GroupEntry} {e : GroupEntry} (hids : (groups.map GroupEntry.id).Nodup)
    (he : e ∈ groups) : ∃ a b, groups = a ++ e :: b ∧ ∀ y ∈ a ++ b, y.id ≠ e.id := by
  obtain ⟨a, b, rfl⟩ := List.append_of_mem he
  refine ⟨a, b, rfl, fun y hy hid => ?_⟩
  rw [List.map_append, List.map_cons, List.nodup_middle, List.nodup_cons, ← List.map_append] at hids
  exact hids.1 (hid ▸ List.mem_map_of_mem hy)

theorem replaceGroup_split {a b : List GroupEntry} {e e' : GroupEntry} (hid : e'.id = e.id) (h : ∀ y ∈ a ++ b, y.id ≠ e.id) :
    replaceGroup e' (a ++ e :: b) = a ++ e' :: b := by
  have others : ∀ l : List GroupEntry, (∀ y ∈ l, y.id ≠ e.id) → l.map (fun y => if y.id = e'.id then e' else y) = l :=
    fun l hl => (List.map_congr_left fun y hy => if_neg (hid ▸ hl y hy)).trans (List.map_id' l)
  unfold replaceGroup
  rw [List.map_append, List.map_cons, others a fun y hy => h y (List.mem_append_left b hy),
    others b fun y hy => h y (List.mem_append_right a hy), if_pos hid.symm]

/-- An entry changes with the lanes of its members. -/
theorem assembled_setEntry {lane lane' : Ix → Lane} {a b : List GroupEntry} {e e' : GroupEntry}
    (h : Assembled lane (a ++ e :: b)) (hid : e'.id = e.id) (hothers : ∀ y ∈ a ++ b, y.id ≠ e.id)
    (hentry : EntryAgrees lane' e') (hmembers : ∀ id k, id ≠ e.id → members id (lane' k) = members id (lane k))
    (hparts : ∀ k, ∀ x ∈ (lane' k).landing, ∀ g ∈ x.group,
      x ∈ (lane k).landing ∨ x.unexpected = false ∧ g.id = e.id)
    (htally : ∀ k rush, (lane' k).tally rush + (if readyAt k rush e = true then 1 else 0) + singles rush (lane k) =
      (lane k).tally rush + (if readyAt k rush e' = true then 1 else 0) + singles rush (lane' k)) :
    Assembled lane' (a ++ e' :: b) := by
  have hids : (a ++ e' :: b).map GroupEntry.id = (a ++ e :: b).map GroupEntry.id := by simp [hid]
  have hfilter : ∀ y : GroupEntry, ∀ p : GroupEntry → Bool,
      ((a ++ y :: b).filter p).length = (a.filter p).length + (b.filter p).length + if p y = true then 1 else 0 := fun y p => by
    rw [List.filter_append, List.filter_cons, List.length_append]
    split <;> simp [Nat.add_assoc]
  refine ⟨hids ▸ h.ids, fun y hy => ?_, fun k x hx g hg => ?_, fun k rush => ?_⟩
  · have hcases : y = e' ∨ y ∈ a ++ b := by
      simp only [List.mem_append, List.mem_cons] at hy ⊢
      tauto
    rcases hcases with rfl | hy
    · exact hentry
    · have hmem : y ∈ a ++ e :: b := by
        simp only [List.mem_append, List.mem_cons] at hy ⊢
        tauto
      obtain ⟨htaken, hlanded, hfull, hsum, huntaken⟩ := h.entries y hmem
      exact ⟨htaken, hlanded, hfull, hsum, fun k => (huntaken k).trans (hmembers y.id k (hothers y hy)).symm⟩
  · rw [hids]
    rcases hparts k x hx g hg with hold | ⟨hx, hg⟩
    · exact h.parts k x hold g hg
    · exact ⟨hx, by simp [hg]⟩
  · have hlaw := h.tallies k rush
    have hnew := htally k rush
    rw [hfilter] at hlaw ⊢
    omega

/-- The entry of an order with all its totes taken goes (R127). -/
theorem assembled_dropEntry {lane : Ix → Lane} {a b : List GroupEntry} {e : GroupEntry} (h : Assembled lane (a ++ e :: b))
    (hnone : ∀ k, e.untaken.get k = 0) : Assembled lane (a ++ b) := by
  have hsub : (a ++ b).Sublist (a ++ e :: b) := List.Sublist.append (List.Sublist.refl a) (List.sublist_cons_self e b)
  obtain ⟨_, _, _, _, huntaken⟩ := h.entries e (by simp)
  refine ⟨h.ids.sublist (hsub.map _), fun y hy => h.entries y (hsub.subset hy), fun k x hx g hg => ?_, fun k rush => ?_⟩
  · obtain ⟨hexpected, hid⟩ := h.parts k x hx g hg
    have hne : g.id ≠ e.id := fun heq => by
      have hempty : (lane k).landing.filter (memberOf e.id) = [] :=
        List.eq_nil_of_length_eq_zero ((huntaken k).symm.trans (hnone k))
      have hmember : memberOf e.id x = true := by rw [memberOf_of_group hg, heq, decide_eq_true rfl]
      exact absurd hmember (List.filter_eq_nil_iff.mp hempty x hx)
    refine ⟨hexpected, ?_⟩
    simp only [List.map_append, List.map_cons, List.mem_append, List.mem_cons] at hid ⊢
    tauto
  · rw [h.tallies k rush, List.filter_append, List.filter_append, List.filter_cons]
    simp [readyAt, hnone k]

/-- An entry for a group with no tote in the lanes opens (R123). -/
theorem assembled_openGroup {lane : Ix → Lane} {groups : List GroupEntry} {g : GroupPart} (h : Assembled lane groups)
    (hg : groupSound g) (hnew : ∀ e ∈ groups, e.id ≠ g.id) : Assembled lane (groups ++ [GroupEntry.new g]) := by
  obtain ⟨_, _, hcount, _⟩ := hg
  have hnone : ∀ k, members g.id (lane k) = 0 := fun k => by
    refine List.length_eq_zero_iff.mpr (List.filter_eq_nil_iff.mpr fun x hx hmember => ?_)
    obtain ⟨y, hy, hid⟩ := group_of_memberOf hmember
    obtain ⟨e, he, heid⟩ := List.mem_map.mp (h.parts k x hx y hy).2
    exact hnew e he (heid.trans hid)
  refine ⟨?_, fun e he => ?_, fun k x hx y hy => ?_, fun k rush => ?_⟩
  · rw [List.map_append, List.map_singleton, List.nodup_append_comm, List.singleton_append, List.nodup_cons]
    refine ⟨fun hmem => ?_, h.ids⟩
    obtain ⟨e, he, hid⟩ := List.mem_map.mp hmem
    exact hnew e he hid
  · rcases List.mem_append.mp he with he | he
    · exact h.entries e he
    · rw [List.mem_singleton.mp he]
      refine ⟨le_refl 0, Nat.zero_le _, ?_, rfl, fun k => ?_⟩
      · simp only [GroupEntry.new, Bool.false_eq_true, false_iff]
        omega
      · exact (Tri.get_const 0 k).trans (hnone k).symm
  · obtain ⟨hexpected, hid⟩ := h.parts k x hx y hy
    exact ⟨hexpected, by rw [List.map_append]; exact List.mem_append_left _ hid⟩
  · rw [h.tallies k rush, List.filter_append]
    simp [readyAt, GroupEntry.new]

/-! ### Members that land and are taken -/

theorem sum_modify (t : Tri Nat) (k : Ix) (f : Nat → Nat) :
    (t.modify k f).x0 + (t.modify k f).x1 + (t.modify k f).x2 + t.get k = t.x0 + t.x1 + t.x2 + f (t.get k) := by
  cases k <;> simp [Tri.modify, Tri.set, Tri.get] <;> omega

theorem members_congr {l l' : Lane} (h : l.landing = l'.landing) (id : Nat) : members id l = members id l' := by
  unfold members; rw [h]

theorem singles_congr {l l' : Lane} (h : l.landing = l'.landing) (rush : Bool) : singles rush l = singles rush l' := by
  unfold singles; rw [h]

section Member

variable {r : Records} {k : Ix} {x : LandingRec} {g : GroupPart} {e : GroupEntry} (hx : x.group = some g)
include hx

/-! A member that lands. -/

theorem members_countMember (id : Nat) (j : Ix) : members id ((r.countMember k x e).lane j) =
    members id (r.lane j) + if j = k ∧ g.id = id then 1 else 0 := by
  rw [members_congr (landing_countMember k j x e r), lane_atLane]
  by_cases hj : j = k
  · subst hj
    simp [members_land, memberOf_of_group hx]
  · simp [hj]

theorem singles_countMember (rush : Bool) (j : Ix) :
    singles rush ((r.countMember k x e).lane j) = singles rush (r.lane j) := by
  rw [singles_congr (landing_countMember k j x e r), lane_atLane]
  by_cases hj : j = k
  · subst hj
    simp [singles_land, singleOrder_of_group hx]
  · simp [hj]

omit hx in
theorem tally_countMember (hnotready : e.ready = false) (rush : Bool) (j : Ix) :
    ((r.countMember k x e).lane j).tally rush =
      (r.lane j).tally rush + if readyAt j rush (e.land k x.cls) = true then 1 else 0 := by
  have hlanded : ((r.atLane k (Lane.land x)).lane j).tally rush = (r.lane j).tally rush := by
    rw [lane_atLane]
    split
    · next hj => rw [hj]; rfl
    · rfl
  have hready : (e.land k x.cls).ready = decide (e.landed + 1 = e.count) := by
    simp [GroupEntry.land, hnotready]
  have hcount : (e.land k x.cls).landed = e.landed + 1 := rfl
  unfold Records.countMember readyAt
  simp only [hready, hcount]
  by_cases hcalled : e.landed + 1 = e.count ∧ 0 < (e.land k x.cls).untaken.get j
  · rw [if_pos hcalled, tally_call, hlanded]
    simp [hcalled.1, hcalled.2]
  · rw [if_neg hcalled, hlanded]
    simp only [Bool.and_eq_true, decide_eq_true_eq]
    rw [if_neg fun h => hcalled h.1, Nat.add_zero]

theorem entryAgrees_countMember (hid : e.id = g.id) (h : EntryAgrees r.lane e) (hroom : e.landed ≠ e.count) :
    EntryAgrees (r.countMember k x e).lane (e.land k x.cls) := by
  have hnotready := h.notReady hroom
  obtain ⟨htaken, hlanded, _, hsum, huntaken⟩ := h
  have hmodify := sum_modify e.untaken k (· + 1)
  refine ⟨Nat.le_succ_of_le htaken, Nat.lt_of_le_of_ne hlanded hroom, ?_, ?_, fun j => ?_⟩
  · simp [GroupEntry.land, hnotready]
  · simp only [GroupEntry.land]
    omega
  · rw [members_countMember hx]
    simp only [GroupEntry.land, Tri.get_modify, huntaken j, ← hid, and_true]
    split <;> rfl

theorem assembled_landMember (h : Assembled r.lane r.groups) (hg : groupSound g) (hexpected : x.unexpected = false)
    (he : e ∈ r.groups) (hid : e.id = g.id) (hwanted : e.landed ≠ e.count ∨ e = GroupEntry.new g) :
    Assembled (r.countMember k x e).lane (r.countMember k x e).groups := by
  have hagrees := h.entries e he
  have hroom : e.landed ≠ e.count := hwanted.elim id fun heq => by
    obtain ⟨_, _, hcount, _⟩ := hg
    rw [heq]
    simp only [GroupEntry.new]
    omega
  have hnotready := hagrees.notReady hroom
  obtain ⟨a, b, hsplit, hothers⟩ := split_at_entry h.ids he
  have hgroups : (r.countMember k x e).groups = a ++ e.land k x.cls :: b := by
    unfold Records.countMember
    simp only []
    rw [hsplit]
    exact replaceGroup_split rfl hothers
  rw [hgroups]
  rw [hsplit] at h
  refine assembled_setEntry h rfl hothers (entryAgrees_countMember hx hid hagrees hroom) (fun id j hne => ?_)
    (fun j y hy p hp => ?_) fun j rush => ?_
  · rw [members_countMember hx, if_neg fun heq => hne (heq.2.symm.trans hid.symm)]
    rfl
  · rw [landing_countMember, lane_atLane] at hy
    split at hy
    · next hj =>
      rcases List.mem_append.mp hy with hy | hy
      · exact .inl (hj ▸ hy)
      · obtain rfl := List.mem_singleton.mp hy
        obtain rfl := Option.some.inj (hx.symm.trans hp)
        exact .inr ⟨hexpected, hid.symm⟩
    · exact .inl hy
  · have hold : readyAt j rush e = false := by simp [readyAt, hnotready]
    rw [tally_countMember hnotready, singles_countMember hx, hold]
    rfl

/-! A member that is taken. -/

variable {rest : List LandingRec} (hfront : (r.lane k).landing = x :: rest)
include hfront

theorem members_takeMember (id : Nat) (j : Ix) :
    members id (r.lane j) = members id ((r.takeMember k e).lane j) + if j = k ∧ g.id = id then 1 else 0 := by
  rw [members_congr (landing_takeMember k j e r), lane_atLane]
  by_cases hj : j = k
  · subst hj
    simp [members_of_front hfront, memberOf_of_group hx]
  · simp [hj]

theorem singles_takeMember (rush : Bool) (j : Ix) :
    singles rush ((r.takeMember k e).lane j) = singles rush (r.lane j) := by
  rw [singles_congr (landing_takeMember k j e r), lane_atLane]
  by_cases hj : j = k
  · subst hj
    simp [singles_of_front hfront, singleOrder_of_group hx]
  · simp [hj]

omit hx hfront in
theorem lane_takeMember (e : GroupEntry) (j : Ix) : (r.takeMember k e).lane j =
    if j = k then
      if e.ready && decide ((e.take k).untaken.get k = 0) then (r.lane k).next.collect e.cls else (r.lane k).next
    else r.lane j :=
  lane_atLane r k j fun l =>
    if e.ready && decide ((e.take k).untaken.get k = 0) then l.next.collect e.cls else l.next

theorem one_le_untaken (hid : e.id = g.id) (h : EntryAgrees r.lane e) : 1 ≤ e.untaken.get k := by
  obtain ⟨_, _, _, _, huntaken⟩ := h
  rw [huntaken k, members_takeMember (e := e) hx hfront, if_pos ⟨rfl, hid.symm⟩]
  exact Nat.le_add_left ..

theorem entryAgrees_takeMember (hid : e.id = g.id) (h : EntryAgrees r.lane e) :
    EntryAgrees (r.takeMember k e).lane (e.take k) := by
  have hone := one_le_untaken hx hfront hid h
  obtain ⟨htaken, hlanded, hfull, hsum, huntaken⟩ := h
  have hmodify := sum_modify e.untaken k (· - 1)
  have hpart : e.untaken.get k ≤ e.untaken.x0 + e.untaken.x1 + e.untaken.x2 := by
    cases k <;> simp only [Tri.get] <;> omega
  refine ⟨?_, hlanded, hfull, ?_, fun j => ?_⟩
  · simp only [GroupEntry.take]
    omega
  · simp only [GroupEntry.take]
    omega
  · have hj := members_takeMember (e := e) hx hfront e.id j
    rw [← huntaken j, ← hid] at hj
    simp only [GroupEntry.take, Tri.get_modify]
    split
    · next heq =>
      rw [if_pos ⟨heq, rfl⟩] at hj
      omega
    · next hne =>
      rw [if_neg fun h => hne h.1] at hj
      exact hj

omit hx hfront in
/-- With the last tote of a complete order its bay's ready count falls; else it stays, as the order stays or was none. -/
theorem tally_takeMember (h : Assembled r.lane r.groups) (he : e ∈ r.groups) (hone : 1 ≤ e.untaken.get k) (rush : Bool)
    (j : Ix) : ((r.takeMember k e).lane j).tally rush + (if readyAt j rush e = true then 1 else 0) =
      (r.lane j).tally rush + if readyAt j rush (e.take k) = true then 1 else 0 := by
  have hheld : readyAt j rush e = true → 1 ≤ (r.lane j).tally rush := fun hready => by
    have hpos := List.length_pos_of_mem (List.mem_filter.mpr ⟨he, hready⟩)
    rw [h.tallies j rush]
    omega
  by_cases hj : j = k
  · subst hj
    have hleft : (e.take j).untaken.get j = e.untaken.get j - 1 := Tri.get_modify_self ..
    have hlane : (r.takeMember j e).lane j =
        if e.ready && decide (e.untaken.get j - 1 = 0) then (r.lane j).next.collect e.cls else (r.lane j).next := by
      rw [← hleft, lane_takeMember, if_pos rfl]
    have hnext : (r.lane j).next.tally rush = (r.lane j).tally rush := rfl
    have hafter : readyAt j rush (e.take j) = (e.ready && decide (0 < e.untaken.get j - 1) && counted rush e.cls) := by
      rw [← hleft]
      rfl
    rw [hlane, hafter]
    unfold readyAt at hheld ⊢
    cases hready : e.ready with
    | false => simp [hnext]
    | true =>
      have hbefore : decide (0 < e.untaken.get j) = true := decide_eq_true hone
      simp only [hready, hbefore, Bool.true_and] at hheld ⊢
      by_cases hlast : e.untaken.get j - 1 = 0
      · simp only [hlast, decide_true, if_true, tally_collect, hnext]
        cases hcounted : counted rush e.cls with
        | false => simp
        | true =>
          have := hheld hcounted
          simp
          omega
      · have hstill : 0 < e.untaken.get j - 1 := Nat.pos_of_ne_zero hlast
        simp [hlast, hstill, hnext]
  · have hlane : (r.takeMember k e).lane j = r.lane j := (lane_takeMember ..).trans (if_neg hj)
    have hsame : readyAt j rush (e.take k) = readyAt j rush e := by
      unfold readyAt
      simp [GroupEntry.take, Tri.get_modify, hj]
    rw [hlane, hsame]

theorem assembled_takeMember (h : Assembled r.lane r.groups) (he : e ∈ r.groups) (hid : e.id = g.id) :
    Assembled (r.takeMember k e).lane (r.takeMember k e).groups := by
  have hagrees := h.entries e he
  have htally := tally_takeMember (k := k) h he (one_le_untaken hx hfront hid hagrees)
  obtain ⟨a, b, hsplit, hothers⟩ := split_at_entry h.ids he
  have hreplaced : replaceGroup (e.take k) r.groups = a ++ e.take k :: b := by
    rw [hsplit]
    exact replaceGroup_split rfl hothers
  have hentry := entryAgrees_takeMember hx hfront hid hagrees
  rw [hsplit] at h
  have hset : Assembled (r.takeMember k e).lane (a ++ e.take k :: b) := by
    refine assembled_setEntry h rfl hothers hentry (fun id j hne => ?_) (fun j y hy p hp => .inl ?_) fun j rush => ?_
    · rw [members_takeMember (e := e) hx hfront id j, if_neg fun heq => hne (heq.2.symm.trans hid.symm)]
      rfl
    · rw [landing_takeMember, lane_atLane] at hy
      split at hy
      · next hj => exact hj ▸ List.mem_of_mem_tail hy
      · exact hy
    · rw [singles_takeMember hx hfront, htally rush j]
  have hgroups : (r.takeMember k e).groups = Records.groupsWithout k e r.groups := rfl
  rw [hgroups, Records.groupsWithout, hreplaced]
  split
  · next hlast =>
    have hrest : (a ++ e.take k :: b).filter (fun y => decide (y.id ≠ e.id)) = a ++ b := by
      have hkept := List.filter_eq_self.mpr fun y hy => decide_eq_true (hothers y hy)
      rw [List.filter_append] at hkept
      rw [List.filter_append, List.filter_cons_of_neg (by simp [GroupEntry.take]), hkept]
    rw [hrest]
    refine assembled_dropEntry hset fun j => ?_
    obtain ⟨_, hlanded, _, hsum, _⟩ := hentry
    have hcount : (e.take k).count = e.count := rfl
    cases j <;> simp only [Tri.get] <;> omega
  · exact hset

end Member

/-! ### Every move -/

theorem assembled_reset : Assembled (recordsOf State.reset).lane (recordsOf State.reset).groups :=
  (assemblySound_iff _).mp (by unfold AssemblySound entrySound; decide)

/-- With the identity fields in range every move keeps the lanes and the group table in agreement. -/
theorem assembled_move {r r' : Records} (hmove : Move r r') (hr : r.soundIdents ∧ Assembled r.lane r.groups) :
    r'.soundIdents ∧ Assembled r'.lane r'.groups := by
  obtain ⟨hidents, h⟩ := hr
  refine ⟨soundIdents_move hmove hidents, ?_⟩
  obtain ⟨_, hzone, _⟩ := hidents
  cases hmove with
  | shrink | notice | spurNotice | spurStray | enter | writeRoutes | commitRoutes => exact h
  | landSingle room single expected => exact assembled_landSingle single expected h
  | landUnexpected room => exact assembled_landUnexpected h
  | openGroup room source part new => exact assembled_openGroup h ((hzone _ source).1 _ part) new
  | landMember room source part same expected entry id wanted =>
    exact assembled_landMember same h ((hzone _ source).1 _ part) expected entry id wanted
  | takeUncounted front uncounted => exact assembled_takeUncounted front h uncounted
  | takeSingle front single expected => exact assembled_takeSingle front h single expected
  | takeMember front part expected entry id => exact assembled_takeMember part front h entry id
  | reset one max => exact assembled_reset

/-- Settles O59: each landing and each removal changes the lanes, the entry and the ready counts together. -/
theorem stepsKeepAssemblyCountsTrue : Obligations.StepsKeepAssemblyCountsTrue := by
  unfold Obligations.StepsKeepAssemblyCountsTrue
  intro s t hidents hs hstep
  have hlaws := And.intro ((identsSound_iff s).mp hidents) ((assemblySound_iff s).mp hs)
  have hafter := invariant_of_step (p := fun r => r.soundIdents ∧ Assembled r.lane r.groups) assembled_move hstep hlaws
  exact (assemblySound_iff t).mpr hafter.2

end Sys2Proof.Totes
end

section
/-! The laws right after reset, and the grants of an event (R35, R136). -/

namespace Sys2Proof.Totes

open Sys2Proof.Machine Sys2Proof.Safety Sys2Proof.Claims

/-! ### Reset -/

theorem reset_spursSound : SpursSound State.reset := fun i _ => by
  cases i <;> exact ⟨nofun, rfl, nofun, Nat.zero_le 15⟩

/-- Settles O48: after reset every list is empty, every timer idle and every count 0. -/
theorem resetMeetsEveryLaw : Obligations.ResetMeetsEveryLaw := by
  unfold Obligations.ResetMeetsEveryLaw
  refine ⟨resetListsFit, ?_, ?_, ?_, ?_, ?_, ?_, ?_, reset_spursSound, ?_, ?_, ?_, ?_, ?_, (assemblySound_iff _).mpr assembled_reset, ?_⟩
  · unfold QueuesFit; decide
  · unfold FramesFit frameFits; decide
  · unfold ParamsSound; decide
  · unfold PositionSound; decide
  · unfold EyesSound edgesSound; decide
  · unfold NodeSound; decide
  · unfold ConfigQuiet; decide
  · unfold TagsUnique; decide
  · unfold IdentsSound identSound groupSound; decide
  · unfold ReservedSound; decide
  · unfold CreditsSound; decide
  · unfold TerminalQuiet; decide
  · unfold LampsSound lampSound; decide

/-! ### Grants (R35, R136) -/

theorem budget_eq (s : State) : s.budget = budgetSum s := by
  unfold State.budget budgetSum State.anyGranted
  simp only [Belt.granting_eq]

/-- n grants made at once. -/
def granted (n : Nat) (s : State) : State := { s with credit := s.credit.grant n }

theorem grantCredits_eq (s : State) : s.grantCredits = granted s.grantCount s := rfl

theorem grant_eq (n : Nat) (c : CreditUnit) : c.grant n =
    { c with
      o := c.o + n, g := if c.mode = .locked then c.g + BitVec.ofNat 8 n else c.g, waiting := min 16 (c.waiting + n) } := by
  unfold CreditUnit.grant
  cases h : c.mode <;> simp [CreditUnit.request, Config.creditWaitCap, h]

theorem granted_zero {s : State} (h : s.credit.waiting ≤ 16) : granted 0 s = s := by
  unfold granted
  rw [grant_eq]
  simp [h]

/-- One grant, then n more. -/
theorem granted_succ (n : Nat) (s : State) : granted n (granted 1 s) = granted (n + 1) s := by
  have hcredit : (s.credit.grant 1).grant n = s.credit.grant (n + 1) := by
    have hsum : BitVec.ofNat 8 (n + 1) = 1 + BitVec.ofNat 8 n := by rw [Nat.add_comm, BitVec.ofNat_add]; rfl
    have hwaiting : min 16 (min 16 (s.credit.waiting + 1) + n) = min 16 (s.credit.waiting + (n + 1)) := by omega
    have ho : s.credit.o + 1 + n = s.credit.o + (n + 1) := by omega
    simp only [grant_eq, hwaiting, hsum, ho]
    split <;> simp [BitVec.add_assoc]
  exact congrArg (fun c => { s with credit := c }) hcredit

/-- Each grant leaves one fewer to make. -/
theorem grantCount_granted (n : Nat) (s : State) : (granted n s).grantCount = s.grantCount - n := by
  have ho : (granted n s).credit.o = s.credit.o + n := by unfold granted; rw [grant_eq]
  have hbudget : (granted n s).budget = s.budget + n := by
    have hlists : (granted n s).expected = s.expected ∧ (granted n s).zone = s.zone := ⟨rfl, rfl⟩
    have hany : (granted n s).anyGranted = s.anyGranted := rfl
    unfold State.budget
    rw [ho, hlists.1, hlists.2, hany]
    omega
  have hparams : (granted n s).params = s.params := rfl
  have htracking : (granted n s).tracking = s.tracking := rfl
  unfold State.grantCount
  rw [ho, hbudget, hparams, htracking]
  split <;> omega

theorem grantOnce_eq (s : State) : grantOnce s = if s.grantCount = 0 then none else some (granted 1 s) := by
  have hcount : s.grantCount ≠ 0 ↔ s.node.state ≠ .config ∧ s.credit.o < s.params.upLimit ∧ budgetSum s < s.params.zoneBudget := by
    unfold State.grantCount State.tracking
    rw [budget_eq]
    by_cases h : s.node.state = .config
    · simp [h]
    · simp only [h, ne_eq, not_false_eq_true, decide_true, if_true, true_and]
      omega
  unfold grantOnce
  by_cases h : s.grantCount = 0
  · rw [if_pos h, if_neg fun hc => hcount.mpr hc h]
  · rw [if_neg h, if_pos (hcount.mp h)]
    unfold granted
    rw [grant_eq]
    rfl

theorem grantRepeatedly_eq (n : Nat) {s : State} (hwaiting : s.credit.waiting ≤ 16) (hn : s.grantCount ≤ n) :
    grantRepeatedly n s = granted s.grantCount s := by
  induction n generalizing s with
  | zero => rw [Nat.le_zero.mp hn, granted_zero hwaiting, grantRepeatedly]
  | succ n ih =>
    rw [grantRepeatedly, grantOnce_eq]
    by_cases h : s.grantCount = 0
    · rw [if_pos h, h, granted_zero hwaiting]
    · have hone : (granted 1 s).credit.waiting ≤ 16 := by
        unfold granted
        rw [grant_eq]
        exact Nat.min_le_left ..
      have hfewer := grantCount_granted 1 s
      rw [if_neg h]
      simp only []
      rw [ih hone (by omega), hfewer, granted_succ, Nat.sub_add_cancel (Nat.pos_of_ne_zero h)]

/-- Settles O30: the grants of one update are as many single ones as the conditions allow, and then none is left. -/
theorem grantsRepeatUntilAConditionFails : Obligations.GrantsRepeatUntilAConditionFails := by
  unfold Obligations.GrantsRepeatUntilAConditionFails
  refine ⟨fun s n hwaiting hn => ⟨?_, ?_⟩, budget_eq, fun _ => rfl⟩
  · have hcount : s.grantCount ≤ n := by
      unfold State.grantCount
      split <;> omega
    rw [grantCredits_eq, grantRepeatedly_eq n hwaiting hcount]
  · rw [grantOnce_eq, grantCredits_eq, grantCount_granted, Nat.sub_self, if_pos rfl]

end Sys2Proof.Totes
end

section
/-! Identity fields on the wire: what a NOTICE carries and how it is read back (R24, R25, R38, R172). -/

namespace Sys2Proof.Totes

open Sys2Proof.Machine Sys2Proof.Safety Sys2Proof.Claims

theorem toNat_byte (n : Nat) : (byte n).toNat = n % 256 := BitVec.toNat_ofNat n 8

theorem beNat_be16 {n : Nat} (h : n < 65536) : beNat (be16 n) = n := by
  simp only [be16, beNat, List.foldl, toNat_byte]
  omega

theorem beNat_be24 {n : Nat} (h : n < 16777216) : beNat (be24 n) = n := by
  simp only [be24, beNat, List.foldl, toNat_byte]
  omega

theorem beNat_be32 {n : Nat} (h : n < 4294967296) : beNat (be32 n) = n := by
  simp only [be32, beNat, List.foldl, toNat_byte]
  omega

theorem ofNat_beNat_four (a b c d : Byte) : BitVec.ofNat 32 (beNat [a, b, c, d]) = a ++ b ++ c ++ d := by
  rw [Belt.beNat_four, BitVec.ofNat_toNat]
  rfl

theorem ofNat_beNat_three (a b c : Byte) : BitVec.ofNat 24 (beNat [a, b, c]) = a ++ b ++ c := by
  have h : beNat [a, b, c] = (a ++ b ++ c : BitVec 24).toNat := by
    rw [Belt.toNat_append_byte, Belt.toNat_append_byte]
    simp [beNat]
  rw [h, BitVec.ofNat_toNat]
  rfl

theorem attrByte_bits (i : Ident) : (attrByte i).getLsbD 0 = decide (i.cls = .rush) ∧
    (attrByte i).getLsbD 1 = decide (i.size = .large) ∧ (attrByte i).getLsbD 2 = i.group.isSome := by
  unfold attrByte
  cases i.cls <;> cases i.size <;> cases i.group.isSome <;> decide

theorem clsOfBit_decide (c : Cls) : clsOfBit (decide (c = .rush)) = c := by cases c <;> rfl

theorem sizeOfBit_decide (z : Size) : sizeOfBit (decide (z = .large)) = z := by cases z <;> rfl

theorem normDest_byte (d : BitVec 7) : normDest (byte d.toNat) = d := by
  have hd : (byte d.toNat).toNat = d.toNat := by rw [toNat_byte]; omega
  unfold normDest
  rw [hd, if_pos d.isLt, BitVec.ofNat_toNat]
  rfl

theorem normOrigin_byte {n : Nat} (h : n ≤ 61) : normOrigin (byte n) = n := by
  have hn : (byte n).toNat = n := by rw [toNat_byte]; omega
  unfold normOrigin
  rw [hn, if_pos (by omega)]

theorem groupOfBytes_groupBytes {g : GroupPart} (h : groupSound g) :
    groupOfBytes (byte (g.id / 256)) (byte g.id) (byte (16 * g.count + g.index)) = some g := by
  obtain ⟨hid, hidMax, hcount, hcountMax, hindex, hindexMax⟩ := h
  have hci : (byte (16 * g.count + g.index)).toNat = 16 * g.count + g.index := by rw [toNat_byte]; omega
  have hdiv : (16 * g.count + g.index) / 16 = g.count := by omega
  have hmod : (16 * g.count + g.index) % 16 = g.index := by omega
  have hbe : beNat [byte (g.id / 256), byte g.id] = g.id := beNat_be16 (by omega)
  unfold groupOfBytes normGroup
  rw [hci, hdiv, hmod, hbe, if_pos ⟨hid, hidMax, hcount, hcountMax, hindex, hindexMax⟩]

/-- The fields beside group and origin, written and read back. -/
theorem identOfBytes_wire (i : Ident) (group : Option GroupPart) (origin : Nat) :
    identOfBytes (be32 i.tag.toNat) (be24 i.order.toNat) (byte i.dest.toNat) (attrByte i) group origin =
      { i with group := group, origin := origin } := by
  obtain ⟨hcls, hsize, _⟩ := attrByte_bits i
  unfold identOfBytes
  rw [beNat_be32 i.tag.isLt, beNat_be24 i.order.isLt, normDest_byte, hcls, hsize, clsOfBit_decide, sizeOfBit_decide,
    BitVec.ofNat_toNat, BitVec.ofNat_toNat]
  simp

theorem length_noticePayload (q : Byte) (i : Ident) :
    (noticePayload q i).length = if i.group.isSome = true then 14 else 11 := by
  unfold noticePayload
  cases i.group <;> rfl

theorem decodeNotice_noticePayload (q : Byte) {i : Ident} (h : identSound i) :
    decodeNotice (noticePayload q i) = some (q, i) := by
  obtain ⟨hgroup, horigin⟩ := h
  obtain ⟨_, _, hmark⟩ := attrByte_bits i
  have hwire := identOfBytes_wire i i.group i.origin
  unfold noticePayload
  cases hg : i.group with
  | none =>
    rw [hg] at hmark hwire
    calc
      _ = some (q, identOfBytes (be32 i.tag.toNat) (be24 i.order.toNat) (byte i.dest.toNat) (attrByte i) none
            (normOrigin (byte i.origin))) := if_neg (ne_true_of_eq_false hmark)
      _ = some (q, i) := by rw [normOrigin_byte horigin, hwire, ← hg]
  | some g =>
    rw [hg] at hmark hwire
    calc
      _ = some (q, identOfBytes (be32 i.tag.toNat) (be24 i.order.toNat) (byte i.dest.toNat) (attrByte i)
            (groupOfBytes (byte (g.id / 256)) (byte g.id) (byte (16 * g.count + g.index))) (normOrigin (byte i.origin))) :=
        if_pos hmark
      _ = some (q, i) := by
        rw [normOrigin_byte horigin, groupOfBytes_groupBytes (hgroup g hg), hwire, ← hg]

theorem normDest_eq (b : Byte) : normDest b = if 128 ≤ b.toNat then 0 else BitVec.ofNat 7 b.toNat := by
  unfold normDest
  by_cases h : b.toNat < 128
  · rw [if_pos h, if_neg (Nat.not_le.mpr h)]
  · rw [if_neg h, if_pos (Nat.not_lt.mp h)]

theorem normOrigin_eq (b : Byte) : normOrigin b = if 62 ≤ b.toNat then 61 else b.toNat := by
  unfold normOrigin
  split <;> split <;> omega

/-- Two bytes spell at most 65535, so only the id 0 is out of range. -/
theorem groupOfBytes_eq (hi lo ci : Byte) : groupOfBytes hi lo ci =
    if 256 * hi.toNat + lo.toNat ≠ 0 ∧ 2 ≤ ci.toNat / 16 ∧ ci.toNat / 16 ≤ 8 ∧ 1 ≤ ci.toNat % 16 ∧
      ci.toNat % 16 ≤ ci.toNat / 16
    then some ⟨256 * hi.toNat + lo.toNat, ci.toNat / 16, ci.toNat % 16⟩ else none := by
  have hid : beNat [hi, lo] = 256 * hi.toNat + lo.toNat := by simp [beNat, Nat.mul_comm]
  have hhi : hi.toNat < 256 := hi.isLt
  have hlo : lo.toNat < 256 := lo.isLt
  unfold groupOfBytes normGroup
  rw [hid]
  exact if_congr (by omega) rfl rfl

theorem identOfBytes_eq (t0 t1 t2 t3 o0 o1 o2 dest attr : Byte) (group : Option GroupPart) (origin : Nat) :
    identOfBytes [t0, t1, t2, t3] [o0, o1, o2] dest attr group origin =
      ⟨t0 ++ t1 ++ t2 ++ t3, o0 ++ o1 ++ o2, if 128 ≤ dest.toNat then 0 else BitVec.ofNat 7 dest.toNat,
        if attr.getLsbD 0 = true then .rush else .staged, if attr.getLsbD 1 = true then .large else .small, group, origin⟩ := by
  unfold identOfBytes
  rw [ofNat_beNat_four, ofNat_beNat_three, normDest_eq]
  rfl

/-- Settles O47: each byte of a payload is read back as it was written, and each field out of range as the rule says. -/
theorem noticePayloadsCarryTheTote : Obligations.NoticePayloadsCarryTheTote := by
  unfold Obligations.NoticePayloadsCarryTheTote
  refine ⟨fun q i hi => ⟨decodeNotice_noticePayload q hi, length_noticePayload q i⟩, ?_⟩
  intro q t0 t1 t2 t3 o0 o1 o2 dest attr origin g0 g1 ci address id count index group from' tote
  refine ⟨fun hattr => ⟨?_, ?_⟩, fun hattr => ⟨?_, ?_⟩⟩
  · rw [decodeNotice, if_neg (ne_true_of_eq_false hattr), identOfBytes_eq, normOrigin_eq]
  · rw [decodeSpurNotice, if_neg (ne_true_of_eq_false hattr), identOfBytes_eq]
  · rw [decodeNotice, if_pos hattr, identOfBytes_eq, normOrigin_eq, groupOfBytes_eq]
  · rw [decodeSpurNotice, if_pos hattr, identOfBytes_eq, groupOfBytes_eq]

end Sys2Proof.Totes
end

section
/-! The bytes of a list record (R36, R172): what LIST READ writes for each record, field by field. -/

namespace Sys2Proof.Totes

open Sys2Proof.Machine Sys2Proof.Safety Sys2Proof.Claims

/-! ### Fields -/

theorem byte_toNat (b : Byte) : byte b.toNat = b := by
  unfold byte
  rw [BitVec.ofNat_toNat, BitVec.setWidth_eq]

/-- Byte number k of a field, from its lowest, is cut from it. -/
theorem byte_div {w : Nat} (x : BitVec w) (k : Nat) : byte (x.toNat / 2 ^ k) = x.extractLsb' k 8 := by
  unfold byte BitVec.extractLsb'
  rw [Nat.shiftRight_eq_div_pow]

theorem be32_toNat (x : BitVec 32) : be32 x.toNat = wire32 x := by
  unfold be32 wire32
  rw [← byte_div, ← byte_div, ← byte_div, ← byte_div, Nat.pow_zero, Nat.div_one]
  rfl

theorem be24_toNat (x : BitVec 24) : be24 x.toNat = wire24 x := by
  unfold be24 wire24
  rw [← byte_div, ← byte_div, ← byte_div, Nat.pow_zero, Nat.div_one]
  rfl

theorem byte_setWidth (d : BitVec 7) : byte d.toNat = d.setWidth 8 := by
  unfold byte
  exact BitVec.ofNat_toNat 8 d

theorem bits8_eq : ∀ b7 b6 b5 b4 b3 b2 b1 b0 : Bool, bits8 b7 b6 b5 b4 b3 b2 b1 b0 =
    byte (bitAt b0 0 + bitAt b1 1 + bitAt b2 2 + bitAt b3 3 + bitAt b4 4 + bitAt b5 5 + bitAt b6 6 + bitAt b7 7) := by
  decide

theorem stateByte_eq (granted claim noRoute missed : Bool) (d : Decision) (state : BitVec 2) :
    stateByte granted claim noRoute missed d state =
      byte (state.toNat + 4 * d.code + bitAt missed 4 + bitAt noRoute 5 + bitAt claim 6 + bitAt granted 7) := by
  have hbits : ∀ (g c n m : Bool) (x : BitVec 2),
      BitVec.ofBool g ++ BitVec.ofBool c ++ BitVec.ofBool n ++ BitVec.ofBool m ++ decisionBits d ++ x =
        byte (x.toNat + 4 * d.code + bitAt m 4 + bitAt n 5 + bitAt c 6 + bitAt g 7) := by
    rcases d with _ | k
    · decide
    · cases k <;> decide
  exact hbits ..

theorem byte_byte_add (a b : Nat) : byte ((byte a).toNat + b) = byte (a + b) := by
  apply BitVec.eq_of_toNat_eq
  rw [toNat_byte, toNat_byte, toNat_byte]
  omega

theorem identBytes_eq (i : Ident) (overflow merged mismatch noRead stray : Bool) :
    identBytes i (bitAt stray 3 + bitAt noRead 4 + bitAt mismatch 5 + bitAt merged 6 + bitAt overflow 7) =
      wire32 i.tag ++ wire24 i.order ++
        [i.dest.setWidth 8, markByte overflow merged mismatch noRead stray i.group i.size i.cls] := by
  unfold identBytes attrByte markByte
  rw [be32_toNat, be24_toNat, byte_setWidth, byte_byte_add, bits8_eq]
  simp only [Nat.add_assoc]

theorem groupBytes_eq (g : Option GroupPart) : groupBytes g = groupWire g := by cases g <;> rfl

theorem trackFields_eq (t : Tote) :
    trackFields t.track = (BitVec.ofNat 2 t.track.code, t.decision, t.claim, t.track.length) := by
  unfold Tote.decision Tote.claim
  cases t.track <;> rfl

theorem toNat_trackCode (t : Track) : (BitVec.ofNat 2 t.code).toNat = t.code := by cases t <;> rfl

/-! ### Records -/

/-- A record as LIST READ writes it: its 18 bytes, and its exit claim byte. -/
def wireOf (r : ListRecord) : List Byte × Byte := (r.bytes, r.claim)

theorem wireOf_zone (t : Tote) : wireOf t.listRecord = zoneRecord t := by
  unfold zoneRecord
  simp only [trackFields_eq, stateByte_eq, toNat_trackCode]
  unfold wireOf Tote.listRecord
  simp only [identBytes_eq, groupBytes_eq, be24_toNat]
  simp [be16, bitAt]

theorem wireOf_notice (n : Notice) : wireOf n.listRecord = noticeRecord n := by
  have hident : identBytes n.ident 0 = _ := identBytes_eq n.ident false false false false false
  unfold wireOf Notice.listRecord noticeRecord
  rw [hident, groupBytes_eq]
  simp [be24, be16, byte]

theorem subBits_toNat (r : SpurRec) : (if r.sub = .atGate then 1 else 0 : BitVec 2).toNat = r.sub.code := by
  cases r.sub <;> rfl

theorem wireOf_spur (r : SpurRec) : wireOf (r.listRecord none) = spurRecord r := by
  have hident : identBytes r.ident (bitAt r.stray 3 + bitAt false 7) = _ := identBytes_eq r.ident false false false false r.stray
  unfold wireOf SpurRec.listRecord spurRecord
  simp only [stateByte_eq, subBits_toNat, groupBytes_eq, Option.any_none, hident]
  simp [bitAt, be24, be16, byte, Decision.code]

theorem wireOf_granted (g : Grant) (r : SpurRec) : wireOf (r.listRecord (some g)) = grantedRecord g r := by
  have hident : identBytes r.ident (bitAt r.stray 3 + bitAt g.overflow 7) = _ :=
    identBytes_eq r.ident g.overflow false false false r.stray
  unfold wireOf SpurRec.listRecord grantedRecord
  simp only [stateByte_eq, subBits_toNat, groupBytes_eq, be24_toNat, Option.any_some, hident]
  simp [bitAt, be16, byte]

theorem bitAt_false (n : Nat) : bitAt false n = 0 := rfl

theorem unexpectedBits_toNat (b : Bool) : (if b = true then 1 else 0 : BitVec 2).toNat = bitAt b 0 := by
  cases b <;> rfl

theorem wireOf_landing (r : LandingRec) : wireOf r.listRecord = landingRecord r := by
  unfold wireOf LandingRec.listRecord landingRecord markByte
  simp only [stateByte_eq, bits8_eq, unexpectedBits_toNat, groupBytes_eq, be24_toNat, be32_toNat]
  simp [bitAt_false, be24, be16, byte, Decision.code]

/-! ### Lists -/

theorem map_wireOf {α : Type} {f : α → ListRecord} {g : α → List Byte × Byte} (h : ∀ a, wireOf (f a) = g a) (l : List α) :
    (l.map f).map wireOf = l.map g := by
  rw [List.map_map]
  exact List.map_congr_left fun a _ => h a

theorem wireOf_spurList (x : Spur) : x.listRecords.map wireOf = spurRecords x := by
  unfold Spur.listRecords spurRecords
  cases hl : x.list with
  | nil => cases x.st <;> rfl
  | cons r rest =>
    have hrest := map_wireOf wireOf_spur rest
    rw [List.map_cons, hrest]
    cases x.st with
    | granted g => exact congrArg (· :: _) (wireOf_granted g r)
    | empty => exact congrArg (· :: _) (wireOf_spur r)
    | waiting => exact congrArg (· :: _) (wireOf_spur r)
    | blocked => exact congrArg (· :: _) (wireOf_spur r)

/-- The lists LIST READ can name are those of ids 0 to 7. -/
theorem readableLists_getElem? (s : State) (id : Nat) :
    (readableLists s)[id]? = (s.listNamed id).map (List.map wireOf) := by
  have hlists : readableLists s =
      [s.expected.map noticeRecord, s.zone.map zoneRecord, spurRecords (s.spurs.get .i0), spurRecords (s.spurs.get .i1),
        spurRecords (s.spurs.get .i2), (s.bays.get .i0).landing.map landingRecord, (s.bays.get .i1).landing.map landingRecord,
        (s.bays.get .i2).landing.map landingRecord] := rfl
  rw [hlists, ← map_wireOf wireOf_notice, ← map_wireOf wireOf_zone, ← wireOf_spurList, ← wireOf_spurList, ← wireOf_spurList,
    ← map_wireOf wireOf_landing, ← map_wireOf wireOf_landing, ← map_wireOf wireOf_landing]
  match id with
  | 0 | 1 | 2 | 3 | 4 | 5 | 6 | 7 => rfl
  | n + 8 => rfl

theorem listNamed_eq_none_iff (s : State) (id : Nat) : s.listNamed id = none ↔ 8 ≤ id := by
  match id with
  | 0 | 1 | 2 | 3 | 4 | 5 | 6 | 7 => simp [State.listNamed]
  | n + 8 => simp [State.listNamed]

/-! ### Route entries and counters -/

theorem encodeRoute_eq (e : RouteEntry) : encodeRoute e = routeWire e := by
  cases e with
  | pass => rfl
  | land p a =>
    rcases a with _ | a
    · cases p <;> decide
    · cases p <;> cases a <;> decide
  | best m =>
    have h : ∀ a b c : Bool, byte ((if a then 1 else 0) + (if b then 2 else 0) + (if c then 4 else 0)) =
        bits8 false false false false false c b a := by decide
    exact congrArg (fun x => [0x02, x]) (h m.x0 m.x1 m.x2)

theorem lookup_eventCodes (e : EventCode) : (eventCodes.lookup e).getD 0x00 = byte e.code := by cases e <;> rfl

/-- A 32-bit field holds a number up to a multiple of 2 to the 32. -/
theorem be32_eq (n : Nat) : be32 n = wire32 (BitVec.ofNat 32 n) := by
  rw [← be32_toNat, BitVec.toNat_ofNat]
  simp only [be32, List.cons.injEq, and_true]
  refine ⟨?_, ?_, ?_, ?_⟩ <;> (apply BitVec.eq_of_toNat_eq; rw [toNat_byte, toNat_byte]; omega)

theorem counter_bytes (c : Counter) : c.bytes =
    [(eventCodes.lookup c.event).getD 0x00, c.classMask, c.qualMask] ++ wire32 (BitVec.ofNat 32 c.value) := by
  unfold Counter.bytes
  rw [lookup_eventCodes, be32_eq]

theorem byte_causeCode (c : HaltCause) : byte c.code = causeCode c := by cases c <;> rfl

end Sys2Proof.Totes
end

section
/-! The requests that read (R65, R174, R178, R183). -/

namespace Sys2Proof.Totes

open Sys2Proof.Machine Sys2Proof.Safety Sys2Proof.Claims

/-! ### What each reads -/

theorem inquiry_eq (s : State) : doneWith s.inquiry =
    [0x00, 0x03, 0x30, 0x01, byte s.node.address, nodeCode s.node.state, causeCode s.node.cause,
      if s.node.estopActive = true then 0x01 else 0x00, s.routes.generation, byte s.expected.length, byte s.zone.length,
      byte (s.spurs.get .i0).list.length, byte (s.spurs.get .i1).list.length, byte (s.spurs.get .i2).list.length,
      byte (s.bays.get .i0).landing.length, byte (s.bays.get .i1).landing.length, byte (s.bays.get .i2).landing.length,
      byte s.groups.length, byte s.reports.length] := by
  have hestop : byte (if s.node.estopActive then 1 else 0) = if s.node.estopActive = true then 0x01 else 0x00 := by
    cases s.node.estopActive <;> rfl
  unfold State.inquiry
  rw [Belt.byte_code, byte_causeCode, hestop]
  rfl

theorem reqReadParameters_of_known {p : List Byte} (s : State) (hne : p ≠ []) (hlen : p.length ≤ 19)
    (hknown : ∀ id ∈ p, (ParamId.ofByte id).isSome = true) :
    reqReadParameters p s = (s, 0x00 :: p.flatMap fun id =>
      let v := ((ParamId.ofByte id).map s.params.get).getD 0
      [id, byte (v / 256), byte v]) := by
  have hfind : p.find? (fun id => (ParamId.ofByte id).isNone) = none :=
    List.find?_eq_none.mpr fun id hid => by simp [Option.isSome_iff_ne_none.mp (hknown id hid)]
  have hpairs : p.flatMap (fun id => (s.readPair id).getD []) = p.flatMap fun id =>
      let v := ((ParamId.ofByte id).map s.params.get).getD 0
      [id, byte (v / 256), byte v] :=
    List.flatMap_congr fun id hid => by
      obtain ⟨x, hx⟩ := Option.isSome_iff_exists.mp (hknown id hid)
      simp [State.readPair, hx, be16]
  rw [reqReadParameters, if_pos ⟨List.length_pos_iff.mpr hne, hlen⟩, hfind]
  simp only [hpairs]
  rfl

theorem reqReadParameters_of_unknown {known after : List Byte} {id : Byte} (s : State)
    (hlen : (known ++ id :: after).length ≤ 19) (hknown : ∀ x ∈ known, (ParamId.ofByte x).isSome = true)
    (hid : ParamId.ofByte id = none) : reqReadParameters (known ++ id :: after) s = (s, [0x04, id, 0xFF]) := by
  have hfind : (known ++ id :: after).find? (fun id => (ParamId.ofByte id).isNone) = some id :=
    List.find?_eq_some_iff_append.mpr ⟨by simp [hid], known, after, rfl, fun x hx => by simp [hknown x hx]⟩
  have hpos : 1 ≤ (known ++ id :: after).length := by simp; omega
  rw [reqReadParameters, if_pos ⟨hpos, hlen⟩, hfind]
  simp only [badParameter, byte_toNat]
  rfl

theorem reqReadParameters_of_length {p : List Byte} (s : State) (h : p = [] ∨ 20 ≤ p.length) :
    reqReadParameters p s = (s, [0x02, byte p.length, 0xFF]) := by
  have hlen : ¬ (1 ≤ p.length ∧ p.length ≤ 19) := by
    rcases h with rfl | h
    · simp
    · omega
  rw [reqReadParameters, if_neg hlen]
  rfl

theorem reqRouteRead_of_fit {bank first count : Byte} {s : State} (hbank : bank.toNat ≤ 1) (hfirst : first.toNat ≤ 127)
    (hcount : 1 ≤ count.toNat) (hrun : count.toNat ≤ 28) (hactive : s.routes.active.length = 128)
    (hstandby : s.routes.standby.length = 128) :
    reqRouteRead [bank, first, count] s = (s, [0x00, s.routes.generation, byte (min count.toNat (128 - first.toNat))] ++
      (((if bank = 0x00 then s.routes.active else s.routes.standby).drop first.toNat).take count.toNat).flatMap routeWire) := by
  have hroutes : encodeRoute = routeWire := funext encodeRoute_eq
  have hlength : (if bank = 0x00 then s.routes.active else s.routes.standby).length = 128 := by
    split
    · exact hactive
    · exact hstandby
  have htake : (if bank = 0x00 then s.routes.active else s.routes.standby).take Config.routeEntries =
      if bank = 0x00 then s.routes.active else s.routes.standby := List.take_of_length_le (by rw [hlength]; decide)
  unfold reqRouteRead
  simp only [if_neg (by omega : ¬ 2 ≤ bank.toNat), if_neg (by simp only [Config.routeEntries]; omega : ¬ Config.routeEntries ≤ first.toNat),
    if_neg (by simp only [Config.routeRun]; omega : ¬ (count.toNat = 0 ∨ Config.routeRun < count.toNat)), htake, hroutes,
    List.length_take, List.length_drop, hlength]
  rfl

/-- The fields of a ROUTE READ are tested in payload order. -/
theorem reqRouteRead_refused (bank first count : Byte) (s : State) :
    (2 ≤ bank.toNat → reqRouteRead [bank, first, count] s = (s, [0x04, 0x00, 0xFF])) ∧
    (bank.toNat ≤ 1 → 128 ≤ first.toNat → reqRouteRead [bank, first, count] s = (s, [0x0A, first, 0xFF])) ∧
    (bank.toNat ≤ 1 → first.toNat ≤ 127 → count.toNat = 0 ∨ 29 ≤ count.toNat →
      reqRouteRead [bank, first, count] s = (s, [0x04, 0x02, 0xFF])) := by
  unfold reqRouteRead
  refine ⟨fun hbank => ?_, fun hbank hfirst => ?_, fun hbank hfirst hcount => ?_⟩
  · exact if_pos hbank
  · exact (if_neg (by omega)).trans (if_pos hfirst)
  · exact (if_neg (by omega)).trans ((if_neg (by simp only [Config.routeEntries]; omega)).trans (if_pos hcount))

theorem reqListRead_of_unknown {id : Byte} (start : Byte) (s : State) (h : 8 ≤ id.toNat) :
    reqListRead [id, start] s = (s, [0x04, 0x00, 0xFF]) := by
  simp only [reqListRead, (listNamed_eq_none_iff s id.toNat).mpr h]
  rfl

/-- LIST READ of a list with records at the start index or none there. -/
theorem reqListRead_of_named {id start : Byte} {l : List (List Byte × Byte)} {s : State}
    (h : (readableLists s)[id.toNat]? = some l) :
    reqListRead [id, start] s = (s, if l.length ≤ start.toNat then [0x0A, byte l.length, 0x00] else
      [0x00, byte l.length, byte (min 3 (l.length - start.toNat))] ++
        ((l.drop start.toNat).take 3).flatMap Prod.fst ++ ((l.drop start.toNat).take 3).map Prod.snd) := by
  rw [readableLists_getElem?, Option.map_eq_some_iff] at h
  obtain ⟨rs, hrs, rfl⟩ := h
  simp only [reqListRead, hrs, List.length_map]
  split
  · rfl
  · simp only [← List.map_drop, ← List.map_take, List.flatMap_map, List.map_map, List.length_take, List.length_drop]
    rfl

theorem reqCounterRead_eq (s : State) : reqCounterRead [] s = (s, 0x00 :: s.counters.flatMap fun c =>
    [(eventCodes.lookup c.event).getD 0x00, c.classMask, c.qualMask] ++ wire32 (BitVec.ofNat 32 c.value)) := by
  have hbytes := funext counter_bytes
  unfold reqCounterRead
  rw [if_pos rfl, hbytes]
  rfl

/-! ### The statement -/

/-- A delivered request whose handler changes nothing is answered with what the handler read. -/
theorem answer_of_read {q : Request} {s : State} {op : Handler} {r : List Byte} (kind : Byte) (hq : delivered q s)
    (h : op q.payload (s.frameArrives q.port) = (s.frameArrives q.port, r)) :
    .next (s.requestArrives op kind q).finish = answer kind q r (s.frameArrives q.port) := by
  rw [Belt.requestArrives_of_delivered hq, h]
  rfl

/-- The read requests, by kind, leave the state as it is. -/
theorem handlerOf_read_state {kind : Byte} (h : kind ∈ ([0x10, 0x12, 0x15, 0x19, 0x1B] : List Byte)) (p : List Byte)
    (s : State) : (handlerOf kind p s).1 = s := by
  simp only [List.mem_cons, List.not_mem_nil, or_false] at h
  rcases h with rfl | rfl | rfl | rfl | rfl
  · exact reqInquire_state p s
  · exact reqReadParameters_state p s
  · exact reqRouteRead_state p s
  · exact reqListRead_state p s
  · exact reqCounterRead_state p s

/-- Settles O17: each read request's handler returns the state it was given, and the bytes of its fields. -/
theorem readsCopyTheState : Obligations.ReadsCopyTheState := by
  unfold Obligations.ReadsCopyTheState
  refine ⟨fun kind p s h => handlerOf_read_state h p s, fun q s hq => ?_⟩
  intro s'
  refine ⟨fun hp => ?_, fun hne hlen hknown => ?_, fun known id after hp hlen hknown hid => ?_, fun hlen => ?_,
    fun bank first count hp hbank hfirst hcount hrun hactive hstandby => ?_, fun bank first count hp => ?_,
    fun id start hp hid => ?_, fun id start l hp hl hstart => ?_, fun id start l hp hl hstart => ?_, fun hp => ?_⟩
  · exact answer_of_read 0x10 hq (by rw [hp, reqInquire, if_pos rfl, inquiry_eq])
  · exact answer_of_read 0x12 hq (reqReadParameters_of_known s' hne hlen hknown)
  · exact answer_of_read 0x12 hq (by rw [hp]; exact reqReadParameters_of_unknown s' (hp ▸ hlen) hknown hid)
  · exact answer_of_read 0x12 hq (reqReadParameters_of_length s' hlen)
  · exact answer_of_read 0x15 hq (by rw [hp]; exact reqRouteRead_of_fit hbank hfirst hcount hrun hactive hstandby)
  · obtain ⟨hbank, hfirst, hcount⟩ := reqRouteRead_refused bank first count s'
    exact ⟨fun h => answer_of_read 0x15 hq (by rw [hp]; exact hbank h),
      fun h h' => answer_of_read 0x15 hq (by rw [hp]; exact hfirst h h'),
      fun h h' h'' => answer_of_read 0x15 hq (by rw [hp]; exact hcount h h' h'')⟩
  · exact answer_of_read 0x19 hq (by rw [hp]; exact reqListRead_of_unknown start s' hid)
  · exact answer_of_read 0x19 hq (by rw [hp, reqListRead_of_named hl, if_neg (Nat.not_le.mpr hstart)])
  · exact answer_of_read 0x19 hq (by rw [hp, reqListRead_of_named hl, if_pos hstart])
  · exact answer_of_read 0x1B hq (by rw [hp]; exact reqCounterRead_eq s')

end Sys2Proof.Totes
end

section
/-! Notices at the Credit Unit and the Tracker, and the due test (R39 to R41, R138 to R140, R163, R166). -/

namespace Sys2Proof.Entry

open Sys2Proof.Machine Sys2Proof.Claims

/-! ### The LEN of a NOTICE (R166) -/

theorem decodeNotice_eq_none_iff (p : List Byte) : decodeNotice p = none ↔ ¬ noticeFits p := by
  unfold decodeNotice
  split
  · simp [noticeFits]
  · simp [noticeFits]
  · next h11 h14 =>
    refine iff_of_true rfl ?_
    rintro ⟨attr, -, ⟨hlen, -⟩ | ⟨hlen, -⟩⟩
    · match p, hlen with
      | [_, _, _, _, _, _, _, _, _, _, _], _ => exact h11 _ _ _ _ _ _ _ _ _ _ _ rfl
    · match p, hlen with
      | [_, _, _, _, _, _, _, _, _, _, _, _, _, _], _ => exact h14 _ _ _ _ _ _ _ _ _ _ _ _ _ _ rfl

theorem noticeFits_of_decodeNotice {p : List Byte} {x : Byte × Ident} (h : decodeNotice p = some x) : noticeFits p :=
  not_not.mp fun hno => by simp [(decodeNotice_eq_none_iff p).mpr hno] at h

theorem length_le_of_noticeFits {p : List Byte} (h : noticeFits p) : p.length ≤ 60 := by
  obtain ⟨attr, -, ⟨hlen, -⟩ | ⟨hlen, -⟩⟩ := h <;> omega

/-! ### What arrives as a NOTICE frame (R163, R166) -/

theorem exec_notice (p : List Byte) (s : State) :
    exec (.notice p) s = .next ((s.frameArrives .U).noticeArrives p).finish := rfl

theorem noticeArrives_of_tooLong {p : List Byte} (h : 60 < p.length) (s : State) : s.noticeArrives p = tooLong .U s :=
  State.noticeArrives_of_lt h s

theorem noticeArrives_of_unfit {p : List Byte} (hlen : p.length ≤ 60) (h : decodeNotice p = none) (s : State) :
    s.noticeArrives p = dropped .U s := by
  rw [State.noticeArrives_of_le hlen, State.noticeFrameIn, h]
  rfl

theorem noticeArrives_of_decoded {p : List Byte} {q : Byte} {i : Ident} (h : decodeNotice p = some (q, i)) (s : State) :
    s.noticeArrives p = s.takeNotice q i := by
  rw [State.noticeArrives_of_le (length_le_of_noticeFits (noticeFits_of_decodeNotice h)), State.noticeFrameIn, h]

/-! ### The count of notices (R138, R139) -/

/-- In SYNC a notice is counted and goes on to the Tracker (R138, R140). -/
theorem takeNotice_of_sync {s : State} (h : s.credit.mode = .sync) (q : Byte) (i : Ident) :
    s.takeNotice q i = ((s.noticeInSync q i).trackNotice i).reTest := by
  simp only [State.takeNotice, State.admission, h, if_true]

/-- A stale notice goes no further than its report (R139). -/
theorem takeNotice_of_stale {s : State} {q : Byte} (h : s.credit.mode = .locked) (hgap : 128 ≤ (q - s.credit.r).toNat)
    (i : Ident) : s.takeNotice q i = s.report .noticeStale (s.credit.r - q).toNat i.tag i.order := by
  simp only [State.takeNotice, State.admission, CreditUnit.gapOf, h, hgap, if_true, Bool.false_eq_true, if_false]

/-- In LOCKED a notice that is not stale is counted and goes on to the Tracker (R139, R140). -/
theorem takeNotice_of_locked {s : State} {q : Byte} (h : s.credit.mode = .locked) (hgap : (q - s.credit.r).toNat < 128)
    (i : Ident) : s.takeNotice q i = ((s.noticeLocked q i).trackNotice i).reTest := by
  simp only [State.takeNotice, State.admission, CreditUnit.gapOf, h, Nat.not_le.mpr hgap, if_true, if_false]

/-- A gap in the sequence numbers is reported (R139). -/
def gapReported (q : Byte) (i : Ident) (s : State) : State :=
  let gap := (q - s.credit.r).toNat
  if gap = 0 then s else s.report .noticeGap gap i.tag i.order

theorem gapReported_eq (q : Byte) (i : Ident) (s : State) : gapReported q i s =
    if 0 < s.credit.gapOf q then s.report .noticeGap (s.credit.gapOf q) i.tag i.order else s := by
  simp only [gapReported, CreditUnit.gapOf, Nat.pos_iff_ne_zero, ne_eq, ite_not]

theorem noticeLocked_within {s : State} {q : Byte} (h : (s.credit.g - (q + 1)).toNat < 128) (i : Ident) :
    s.noticeLocked q i = { gapReported q i s with
      credit := { s.credit with r := q + 1, o := (s.credit.g - (q + 1)).toNat } } := by
  rw [gapReported_eq]
  exact if_neg (Nat.not_le.mpr h)

theorem noticeLocked_overdrawn {s : State} {q : Byte} (h : 128 ≤ (s.credit.g - (q + 1)).toNat) (i : Ident) :
    s.noticeLocked q i = { (gapReported q i s).report .noticeBeyondCredit 1 i.tag i.order with
      credit := { s.credit with r := q + 1, g := q + 1, o := 0 } } := by
  rw [gapReported_eq]
  exact if_pos h

/-- Settles O27: what arrives, by its LEN, and how a decoded notice is counted, by the mode, the gap and the credits left. -/
theorem noticesAreCountedAgainstTheCredits : Obligations.NoticesAreCountedAgainstTheCredits := by
  unfold Obligations.NoticesAreCountedAgainstTheCredits
  intro p s s'
  refine ⟨decodeNotice_eq_none_iff p, fun hlen => ?_, fun hlen hnone => ?_, ⟨_, exec_notice p s⟩, fun q i hdecode => ?_⟩
  · rw [exec_notice, noticeArrives_of_tooLong hlen]
  · rw [exec_notice, noticeArrives_of_unfit hlen hnone]
  · rw [exec_notice, noticeArrives_of_decoded hdecode]
    refine ⟨fun hsync => ?_, fun hlocked => ⟨fun hgap => ?_, fun hgap hleft => ?_, fun hgap hleft => ?_⟩⟩
    · rw [takeNotice_of_sync hsync]; rfl
    · rw [takeNotice_of_stale hlocked hgap]
    · rw [takeNotice_of_locked hlocked hgap, noticeLocked_within hleft]; rfl
    · rw [takeNotice_of_locked hlocked hgap, noticeLocked_overdrawn hleft]; rfl

/-! ### Admission by the Tracker (R39, R40) -/

theorem tagAnnounced_iff (s : State) (tag : BitVec 32) : s.tagAnnounced tag = true ↔
    tag ≠ 0 ∧ ((∃ n ∈ s.expected, n.ident.tag = tag) ∨ ∃ j, ∃ r ∈ (s.spurs.get j).list, r.ident.tag = tag) := by
  simp [State.tagAnnounced, Ix.mem_all]

theorem trackNotice_of_refused {s : State} {i : Ident} {d : Nat} (h : s.noticeRefusal i = some d) :
    s.trackNotice i = s.report .noticeRefused d i.tag i.order := by
  rw [State.trackNotice, h]

theorem trackNotice_of_taken {s : State} {i : Ident} (h : s.noticeRefusal i = none) :
    s.trackNotice i = ({ s with expected := s.expected ++ [Notice.mk i s.pos.P] }).dropOverdue := by
  rw [State.trackNotice, h]

theorem noticeRefusal_of_config {s : State} (h : s.node.state = .config) (i : Ident) : s.noticeRefusal i = some 1 :=
  if_pos h

theorem noticeRefusal_of_full {s : State} (h : s.node.state ≠ .config) (hfull : 16 ≤ s.expected.length) (i : Ident) :
    s.noticeRefusal i = some 2 :=
  (if_neg h).trans (if_pos hfull)

theorem noticeRefusal_of_room {s : State} (h : s.node.state ≠ .config) (hroom : ¬ 16 ≤ s.expected.length) (i : Ident) :
    s.noticeRefusal i = if s.tagAnnounced i.tag = true then some 3 else none :=
  (if_neg h).trans (if_neg hroom)

/-! ### The due test (R41) -/

theorem report_reports_of_room {s : State} (h : s.reports.length < 16) (k : ReportKind) (d : Nat) (tag : BitVec 32)
    (order : BitVec 24) : (s.report k d tag order).reports = s.reports ++ [⟨k, byte d, tag, order⟩] := by
  rw [State.report, if_pos (show s.reports.length < Config.reportCap from h)]

theorem reportMissing_cons (d : Nat) (n : Notice) (ns : List Notice) (s : State) : s.reportMissing d (n :: ns) =
    ((s.report .missing d n.ident.tag n.ident.order).offer .missing (some n.ident.cls) none).reportMissing d ns := rfl

theorem reportMissing_counters (d : Nat) (ns : List Notice) (s : State) : (s.reportMissing d ns).counters =
    ns.foldl (fun cs n => cs.map (Counter.offered .missing (some n.ident.cls) none)) s.counters := by
  induction ns generalizing s with
  | nil => rfl
  | cons n ns ih => rw [reportMissing_cons, ih, List.foldl_cons, State.offer_counters, State.report_counters]

theorem reportMissing_reports_of_room (d : Nat) (ns : List Notice) {s : State} (h : s.reports.length + ns.length ≤ 16) :
    (s.reportMissing d ns).reports = s.reports ++ ns.map fun n => ⟨.missing, byte d, n.ident.tag, n.ident.order⟩ := by
  induction ns generalizing s with
  | nil => simp [State.reportMissing]
  | cons n ns ih =>
    rw [List.length_cons] at h
    have hfirst := report_reports_of_room (s := s) (by omega) .missing d n.ident.tag n.ident.order
    rw [reportMissing_cons, ih (by simp [hfirst]; omega), State.offer_reports, hfirst]
    simp

theorem dropOverdue_expected (s : State) : s.dropOverdue.expected = s.expected.dropWhile s.overdue := by
  rw [State.dropOverdue_frame]

theorem dropOverdue_frame_expected (s : State) : s.dropOverdue = { s with
    expected := s.dropOverdue.expected, reports := s.dropOverdue.reports, dropped := s.dropOverdue.dropped
    counters := s.dropOverdue.counters } := by
  rw [dropOverdue_expected]; exact State.dropOverdue_frame s

/-- The front record that the due test leaves is not overdue. -/
theorem overdue_of_mem_head?_dropOverdue {s : State} {n : Notice} (h : n ∈ s.dropOverdue.expected.head?) :
    s.overdue n = false := by
  rw [dropOverdue_expected] at h
  have hnot := List.head?_dropWhile_not s.overdue s.expected
  rw [h] at hnot
  exact hnot

/-- Settles O28: the refusals in the order of R39; the overdue records are the longest overdue run at the front. -/
theorem trackerAdmitsNoticesAndDropsOverdueOnes : Obligations.TrackerAdmitsNoticesAndDropsOverdueOnes := by
  unfold Obligations.TrackerAdmitsNoticesAndDropsOverdueOnes
  refine ⟨fun s i => ?_, fun s => ⟨s.expected.takeWhile s.overdue, ?_, fun n hn => ?_, fun n hn => ?_, ?_, ?_, fun hroom => ?_⟩⟩
  · intro known full
    have hknown : s.tagAnnounced i.tag = true ↔ known := tagAnnounced_iff s i.tag
    refine ⟨fun hc => ?_, fun hc hfull => ?_, fun hc hroom htag => ?_, fun hc hroom htag => ?_⟩
    · exact trackNotice_of_refused (noticeRefusal_of_config hc i)
    · exact trackNotice_of_refused (noticeRefusal_of_full hc hfull i)
    · exact trackNotice_of_refused ((noticeRefusal_of_room hc hroom i).trans (if_pos (hknown.mpr htag)))
    · exact trackNotice_of_taken ((noticeRefusal_of_room hc hroom i).trans (if_neg (mt hknown.mp htag)))
  · rw [dropOverdue_expected, List.takeWhile_append_dropWhile]
  · exact List.mem_takeWhile_imp (p := s.overdue) hn
  · exact overdue_of_mem_head?_dropOverdue hn
  · exact dropOverdue_frame_expected s
  · exact reportMissing_counters 0 _ _
  · exact reportMissing_reports_of_room 0 _ hroom

end Sys2Proof.Entry
end

section
/-! Records that leave by the exit (R55 to R59, R168). -/

namespace Sys2Proof.Entry

open Sys2Proof.Machine Sys2Proof.Claims

/-! ### One exit (R56 to R59) -/

theorem announceExit_of_terminal {s : State} (h : s.params.terminal = 1) (t : Tote) :
    s.announceExit t = s.report .exited t.ident.origin t.ident.tag t.ident.order :=
  if_pos h

theorem announceExit_of_claim {s : State} (h : s.params.terminal ≠ 1) {t : Tote} {q : Byte} (hq : t.claim = some q) :
    s.announceExit t = s.queueNotice (s.noticeFrame q t.ident) := by
  simp [State.announceExit, State.exitSequence, h, hq]

/-- A record without a claim takes the exit side's s as it leaves (R57). -/
theorem announceExit_of_no_claim {s : State} (h : s.params.terminal ≠ 1) {t : Tote} (hq : t.claim = none) :
    s.announceExit t = ({ s with credit := s.credit.claim } : State).queueNotice (s.noticeFrame s.credit.s t.ident) := by
  simp only [State.announceExit, State.exitSequence, h, hq, if_false]
  rfl

/-- The front record is taken off the zone list and misses its divert where it is still decided LAND (R58). -/
def frontGone (t : Tote) (rest : List Tote) (s : State) : State :=
  State.exitStillLand t { s with zone := rest, credit := { s.credit with exitHold := s.credit.exitHold && t.claim.isSome } }

theorem exitFront_eq (t : Tote) (rest : List Tote) (s : State) :
    s.exitFront t rest = (frontGone t rest s).announceExit t := rfl

theorem frontGone_params (t : Tote) (rest : List Tote) (s : State) : (frontGone t rest s).params = s.params := by
  rw [frontGone, State.exitStillLand_frame]

theorem exitFront_zone (t : Tote) (rest : List Tote) (s : State) : (s.exitFront t rest).zone = rest := by
  rw [State.exitFront_frame]

theorem exitFront_records (t : Tote) (rest : List Tote) (s : State) : State.RecordsOnly s (s.exitFront t rest) := by
  rw [State.exitFront_frame]; exact rfl

/-! ### What a zone record keeps for good -/

/-- The fields of a zone record that claims and exits leave alone. -/
def placed (t : Tote) : Ident × Pos × ToteFlags := (t.ident, t.lead, t.flags)

theorem claimWalk_placed (P : Pos) (hold : Nat) (l : List Tote) (c : CreditUnit) :
    (claimWalk P hold l c).1.map placed = l.map placed := by
  induction l generalizing c with
  | nil => rfl
  | cons t l ih =>
    unfold claimWalk
    repeat' split
    all_goals simp [ih, placed]

theorem claims_placed (s : State) : s.claims.zone.map placed = s.zone.map placed := by
  unfold State.claims
  split
  · rfl
  · exact claimWalk_placed ..

theorem claims_zone_length (s : State) : s.claims.zone.length = s.zone.length := by
  simpa using congrArg List.length (claims_placed s)

/-! ### The exits of an event (R55) -/

/-- The state after one exit and the claims that follow it. -/
def exited (t : Tote) (rest : List Tote) (s : State) : State := (s.exitFront t rest).claims

theorem exited_records (t : Tote) (rest : List Tote) (s : State) : State.RecordsOnly s (exited t rest s) :=
  (exitFront_records t rest s).trans (.claims _)

theorem exited_placed (t : Tote) (rest : List Tote) (s : State) : (exited t rest s).zone.map placed = rest.map placed := by
  rw [exited, claims_placed, exitFront_zone]

theorem exited_zone_length (t : Tote) (rest : List Tote) (s : State) : (exited t rest s).zone.length = rest.length := by
  rw [exited, claims_zone_length, exitFront_zone]

section Loop

variable {s : State}

theorem exitLoop_of_empty (h : s.zone = []) (n : Nat) : State.exitLoop n s = s := by
  cases n <;> simp [State.exitLoop, h]

theorem exitRepeatedly_of_empty (h : s.zone = []) (n : Nat) : exitRepeatedly n s = s := by
  cases n <;> simp [exitRepeatedly, h]

variable {t : Tote} {rest : List Tote}

theorem exitLoop_succ (h : s.zone = t :: rest) (n : Nat) :
    State.exitLoop (n + 1) s = if s.exitReached t = true then State.exitLoop n (exited t rest s) else s := by
  rw [State.exitLoop, h]; rfl

theorem exitRepeatedly_succ (h : s.zone = t :: rest) (n : Nat) :
    exitRepeatedly (n + 1) s = if s.exitReached t = true then exitRepeatedly n (exited t rest s) else s := by
  rw [exitRepeatedly, h]; rfl

end Loop

/-- Any two numbers of exits that the zone list cannot outlast give the same. -/
theorem exitLoop_eq_exitRepeatedly {n m : Nat} {s : State} (hn : s.zone.length ≤ n) (hm : s.zone.length ≤ m) :
    State.exitLoop n s = exitRepeatedly m s := by
  induction n generalizing s m with
  | zero =>
    have hz := List.length_eq_zero_iff.mp (Nat.le_zero.mp hn)
    rw [exitLoop_of_empty hz, exitRepeatedly_of_empty hz]
  | succ n ih =>
    cases hz : s.zone with
    | nil => rw [exitLoop_of_empty hz, exitRepeatedly_of_empty hz]
    | cons t rest =>
      rw [hz, List.length_cons] at hn hm
      obtain ⟨m, rfl⟩ := Nat.exists_eq_add_one_of_ne_zero (n := m) (by omega)
      have hlen := exited_zone_length t rest s
      rw [exitLoop_succ hz, exitRepeatedly_succ hz, ih (s := exited t rest s) (m := m) (by omega) (by omega)]

/-- With a number of exits that the zone list cannot outlast, the front that stays has not reached its exit position. -/
theorem exitReached_of_mem_head?_exitLoop {n : Nat} {s : State} (hn : s.zone.length ≤ n) {x : Tote}
    (hx : x ∈ (State.exitLoop n s).zone.head?) : s.exitReached x = false := by
  induction n generalizing s with
  | zero =>
    rw [State.exitLoop, List.length_eq_zero_iff.mp (Nat.le_zero.mp hn)] at hx
    cases hx
  | succ n ih =>
    cases hz : s.zone with
    | nil =>
      rw [exitLoop_of_empty hz, hz] at hx
      cases hx
    | cons t rest =>
      rw [hz, List.length_cons] at hn
      rw [exitLoop_succ hz] at hx
      split at hx
      · have hsame : (exited t rest s).exitReached x = s.exitReached x := by
          rw [State.exitReached, State.exitReached, (exited_records t rest s).pos, (exited_records t rest s).params]
        exact hsame ▸ ih (by rw [exited_zone_length]; omega) hx
      · next hnot =>
        rw [hz] at hx
        obtain rfl := Option.some.inj hx
        exact Bool.eq_false_iff.mpr hnot

/-- Exits take records off the front, and those that stay keep their order. -/
theorem exitLoop_placed (n : Nat) (s : State) :
    ∃ k, (State.exitLoop n s).zone.map placed = (s.zone.map placed).drop k := by
  induction n generalizing s with
  | zero => exact ⟨0, rfl⟩
  | succ n ih =>
    cases hz : s.zone with
    | nil => exact ⟨0, by rw [exitLoop_of_empty hz, hz]; rfl⟩
    | cons t rest =>
      rw [exitLoop_succ hz]
      split
      · obtain ⟨k, hk⟩ := ih (exited t rest s)
        exact ⟨k + 1, by rw [hk, exited_placed]; rfl⟩
      · exact ⟨0, by rw [hz]; rfl⟩

/-- Settles O32: one exit by TERMINAL and the record's claim; the exits of an event by induction on how many are allowed. -/
theorem exitsLeaveFromTheFront : Obligations.ExitsLeaveFromTheFront := by
  unfold Obligations.ExitsLeaveFromTheFront
  refine ⟨fun s t rest => ?_, fun s => ⟨fun n hn => ?_, fun t ht => ?_, ?_⟩⟩
  · intro s1 s2 announce
    have hgone : frontGone t rest s = s2 := rfl
    have hparams : s2.params = s.params := hgone ▸ frontGone_params t rest s
    rw [exitFront_eq, hgone]
    refine ⟨fun hterm => ?_, fun hterm q hq => ?_, fun hterm hq => ?_⟩
    · exact announceExit_of_terminal (by rw [hparams, hterm]) t
    · exact announceExit_of_claim (by rwa [hparams]) hq
    · exact announceExit_of_no_claim (by rwa [hparams]) hq
  · have hlen := claims_zone_length s
    exact exitLoop_eq_exitRepeatedly (by omega) (by omega)
  · have hreached := exitReached_of_mem_head?_exitLoop (claims_zone_length s).le ht
    have hrecords := State.RecordsOnly.claims s
    rwa [State.exitReached, hrecords.pos, hrecords.params] at hreached
  · obtain ⟨k, hk⟩ := exitLoop_placed s.zone.length s.claims
    exact ⟨k, hk.trans (by rw [claims_placed]; rfl)⟩

end Sys2Proof.Entry
end

section
/-! What every step keeps: a predicate on states that each act of the commands keeps is kept by every step. -/

namespace Sys2Proof.Steps

open Sys2Proof.Machine Sys2Proof.Claims Sys2Proof.Belt

/-- The act leads from states that meet p to such states. -/
def Keeps (p : State → Prop) (act : State → State) : Prop := ∀ s, p s → p (act s)

/-- The acts of which the commands and the sample period are made keep p. -/
structure KeptByActs (p : State → Prop) : Prop where
  /-- A command is taken from the queue. -/
  queue : ∀ l, Keeps p fun s => { s with pending := l }
  /-- What the receivers, the transmit queues, the Tag Port and the counters hold changes. -/
  ports : ∀ lines tagPort counters, Keeps p fun s => { s with lines := lines, tagPort := tagPort, counters := counters }
  /-- The Position Unit changes. -/
  position : ∀ q, Keeps p fun s => { s with pos := q }
  /-- An edge is taken, and accepted where it was not yet. -/
  eyes : ∀ eyes jamAt, Keeps p fun s => { s with eyes := eyes, jamAt := jamAt }
  /-- The filtered emergency-stop input changes. -/
  estop : ∀ active n, Keeps p fun s => { s with node := { s.node with estopActive := active, estopCount := n } }
  finish : Keeps p State.finish
  sample : Keeps p State.samplePeriod
  reset : Keeps p State.resetPart
  request : ∀ kind payload, Keeps p fun s => (handlerOf kind payload s).1
  notice : ∀ q i, Keeps p (State.takeNotice q i)
  sync : ∀ value, Keeps p (State.takeSync value)
  locked : ∀ g r, Keeps p (State.takeLocked g r)
  move : Keeps p State.positionChange
  halt : ∀ c, Keeps p fun s => (s.enterHalt c).reTest
  speed : Keeps p State.takeSample
  owner : ∀ i b e, Keeps p (ownerOf i b e)
  paddle : ∀ k, Keeps p (State.modBay k fun b => { b with paddle := none })
  gate : ∀ i, Keeps p (State.modSpur i fun x => { x with gateTimer := none })
  release : ∀ i, Keeps p fun s =>
    ((s.stickSpur i i.toNat).modSpur i fun x => { x with releaseTimer := none }).reTest
  chime : ∀ k, Keeps p (State.modBay k fun b => { b with chime := none })
  jam : ∀ k, Keeps p (State.chuteJammed k)
  lamp : ∀ k, Keeps p fun s => s.modBay k (Bay.lampStep s.params)
  refresh : Keeps p fun s => { s with credit := { s.credit.request 1 with refresh := some Config.creditRefreshMs } }
  tick : Keeps p State.tick

/-! ### Characters at the Tag Port (R14, R15) -/

theorem tagCharAwait_frame (c : TagChar) (s : State) :
    s.tagCharAwait c = { s with tagPort := (s.tagCharAwait c).tagPort } := by
  unfold State.tagCharAwait; split <;> rfl

theorem judgeRead_frame (got : List Byte) (s : State) : s.judgeRead got = { s with
    tagPort := (s.judgeRead got).tagPort, counters := (s.judgeRead got).counters } := by
  have hvalid : ∀ tag, s.validRead tag = { s with
      tagPort := (s.validRead tag).tagPort, counters := (s.validRead tag).counters } := fun tag => by
    unfold State.validRead
    simp only []
    split
    · split <;> rfl
    · rfl
  unfold State.judgeRead
  split
  · split
    · rw [hvalid]
    · rfl
  · rfl

theorem tagChar_frame (c : TagChar) (s : State) : s.tagChar c = { s with
    tagPort := (s.tagChar c).tagPort, counters := (s.tagChar c).counters } := by
  unfold State.tagChar
  split
  · rw [tagCharAwait_frame]
  · split
    · rw [tagCharAwait_frame]; rfl
    · split
      · rfl
      · split
        · rfl
        · rw [judgeRead_frame]; rfl

namespace KeptByActs

variable {p : State → Prop} (h : KeptByActs p) {s : State}

include h

/-! ### Frames and requests -/

theorem of_frame {t : State} (ht : t = { s with lines := t.lines, tagPort := t.tagPort, counters := t.counters })
    (hs : p s) : p t :=
  ht ▸ h.ports t.lines t.tagPort t.counters s hs

theorem frameArrives (q : Port) (hs : p s) : p (s.frameArrives q) :=
  h.of_frame (by rw [State.frameArrives_frame]) hs

theorem offerDrop (q : Port) (hs : p s) : p (s.offerDrop q) := h.of_frame rfl hs

theorem forward (q : Port) (f : Frame) (hs : p s) : p (s.forward q f) :=
  h.of_frame (by rw [State.forward_frame]) hs

theorem serve (kind : Byte) (q : Request) (hs : p s) : p (s.serve (handlerOf kind) kind q) := by
  unfold State.serve
  split
  · exact h.offerDrop q.port hs
  · exact h.of_frame rfl (h.request kind q.payload s hs)

theorem broadcastRequest (kind : Byte) (q : Request) (hs : p s) : p (s.broadcastRequest (handlerOf kind) kind q) := by
  unfold State.broadcastRequest
  split
  · exact h.offerDrop .D hs
  · refine h.forward .D _ ?_
    split
    · exact h.request kind q.payload s hs
    · exact hs

theorem requestArrives (kind : Byte) (q : Request) (hs : p s) : p (s.requestArrives (handlerOf kind) kind q) := by
  have ha := h.frameArrives q.port hs
  unfold State.requestArrives
  simp only []
  split
  · exact h.of_frame rfl ha
  · split
    · exact h.broadcastRequest kind q ha
    · exact h.serve kind q ha

theorem noticeFrameIn (payload : List Byte) (hs : p s) : p (s.noticeFrameIn payload) := by
  unfold State.noticeFrameIn
  split
  · exact h.notice _ _ s hs
  · exact h.offerDrop .U hs

theorem creditFrameIn (payload : List Byte) (hs : p s) : p (s.creditFrameIn payload) := by
  unfold State.creditFrameIn
  split
  · split
    · exact h.sync _ s hs
    · exact h.locked _ _ s hs
    · exact h.offerDrop .D hs
  · exact h.offerDrop .D hs

theorem deliver (q : Port) (f : Frame) (hs : p s) : p (s.deliver q f) := by
  unfold State.deliver
  simp only []
  split
  · split
    · exact h.serve f.kind _ hs
    · exact h.offerDrop q hs
  split
  · cases q with
    | U => exact h.offerDrop .U hs
    | D => exact h.forward .U f hs
  split
  · cases q with
    | U =>
      simp only []
      split
      · exact h.noticeFrameIn f.payload hs
      · exact h.offerDrop .U hs
    | D =>
      simp only []
      split
      · exact h.creditFrameIn f.payload hs
      · exact h.offerDrop .D hs
  split
  · exact h.broadcastRequest f.kind _ hs
  · exact h.forward q.other f hs

theorem wholeFrame (q : Port) (f : Frame) (hs : p s) : p (s.wholeFrame q f) := by
  have ha := h.frameArrives q hs
  unfold State.wholeFrame
  simp only []
  split
  · exact h.of_frame rfl ha
  · exact h.deliver q f ha

theorem lineChar (q : Port) (c : LineChar) (hs : p s) : p (s.lineChar q c) := by
  have hrx : p (s.modPort q fun y => { y with rx := (rxChar (s.lines.get q).rx c).1 }) := h.of_frame rfl hs
  unfold State.lineChar
  simp only []
  split
  · exact hrx
  · exact h.of_frame rfl hrx
  · exact h.finish _ (h.deliver _ _ hrx)

theorem lineChars (q : Port) (cs : List LineChar) (hs : p s) : p (cs.foldl (State.lineChar q) s) := by
  induction cs generalizing s with
  | nil => exact hs
  | cons c cs ih => exact ih (h.lineChar q c hs)

theorem tagChars (cs : List TagChar) (hs : p s) : p (cs.foldl State.tagChar s) := by
  induction cs generalizing s with
  | nil => exact hs
  | cons c cs ih => exact ih (h.of_frame (by rw [tagChar_frame]) hs)

/-! ### The belt (R1 to R6) -/

theorem encoderSample (now : Bool × Bool) (hs : p s) : p (s.encoderSample now) := by
  have hpair : p (withPair now s) := h.position _ s hs
  unfold State.encoderSample
  simp only []
  split
  · exact hpair
  · split
    · unfold State.forwardTransition
      split
      · exact h.move _ (h.position _ _ hpair)
      · exact h.position _ _ hpair
    · unfold State.reverseTransition
      split
      · exact h.move _ (h.position _ _ hpair)
      · exact h.position _ _ hpair
    · have hcounted : p (countedInvalid (withPair now s)) :=
        h.of_frame rfl (h.position (countedInvalid (withPair now s)).pos _ hpair)
      refine (invalidTransition_eq (withPair now s)).symm ▸ ?_
      split
      · exact h.halt .encoder _ hcounted
      · exact hcounted
    · exact hpair

end KeptByActs

/-! ### The commands -/

/-- An outcome that goes on to a state that meets p. -/
def GoesOn (p : State → Prop) (r : Result) : Prop := ∃ t, r = .next t ∧ p t

namespace KeptByActs

variable {p : State → Prop} (h : KeptByActs p) {s : State}

include h

theorem finished (hs : p s) : GoesOn p (.next s.finish) := ⟨_, rfl, h.finish s hs⟩

theorem requested (kind : Byte) (q : Request) (hs : p s) :
    GoesOn p (.next (s.requestArrives (handlerOf kind) kind q).finish) := h.finished (h.requestArrives kind q hs)

theorem onExpiry {act : State → State} (hact : Keeps p act) (timer : Timer) (hs : p s) : GoesOn p (s.onExpiry timer act) := by
  refine ⟨_, rfl, ?_⟩
  split
  · exact h.finish _ (hact s hs)
  · exact hs

theorem edge (i : EyeId) (b : Bool) (hs : p s) : GoesOn p (exec (edgeOf i b) s) := by
  by_cases hno : noEdge i b s
  · exact ⟨s, by rw [exec_edgeOf, edge_of_noEdge hno], hs⟩
  · obtain ⟨e, u, hu⟩ := exists_edgeTaken hno
    rw [exec_of_edgeTaken hu]
    have htaken : p u := edgeTaken_frame hu ▸ h.eyes u.eyes u.jamAt s hs
    exact h.finished (h.owner i b e u htaken)

theorem eStopAssertion (hs : p s) : GoesOn p (execEStopAssertion s) := by
  refine ⟨_, rfl, ?_⟩
  have hset := h.estop true 0 s hs
  split
  · exact hs
  · split
    · exact h.finish _ (h.halt .eStop _ hset)
    · exact h.finish _ hset

theorem eStopRelease (hs : p s) : GoesOn p (execEStopRelease s) := by
  refine ⟨_, rfl, ?_⟩
  split
  · exact h.finish _ (h.estop false 0 s hs)
  · exact hs

theorem nodeResetTakesEffect (q : Port) (hs : p s) : GoesOn p (execNodeResetTakesEffect q s) := by
  refine ⟨_, rfl, ?_⟩
  split
  · exact h.reset s hs
  · exact hs

theorem frameSent (q : Port) (hs : p s) : GoesOn p (execFrameSent q s) := by
  refine ⟨_, rfl, ?_⟩
  split
  · exact hs
  · split
    · exact h.reset s hs
    · exact h.finish _ (h.of_frame rfl hs)

theorem unknownKindRequest (kind : Byte) (q : Request) (hs : p s) : GoesOn p (execUnknownKindRequest kind q s) := by
  refine ⟨_, rfl, ?_⟩
  split
  · exact h.finish _ (h.requestArrives kind q hs)
  · exact h.finish _ (h.offerDrop q.port (h.frameArrives q.port hs))

theorem noticeArrives (payload : List Byte) (hs : p s) : p (s.noticeArrives payload) := by
  unfold State.noticeArrives
  split
  · exact h.of_frame rfl hs
  · exact h.noticeFrameIn payload hs

theorem exec (c : Instr) (hs : p s) : GoesOn p (exec c s) := by
  cases c with
  | powerOn | resetPin => exact ⟨_, rfl, h.reset s hs⟩
  | inquire q => exact h.requested 0x10 q hs
  | setParameters q => exact h.requested 0x11 q hs
  | readParameters q => exact h.requested 0x12 q hs
  | routeWrite q => exact h.requested 0x13 q hs
  | routeCommit q => exact h.requested 0x14 q hs
  | routeRead q => exact h.requested 0x15 q hs
  | spurNotice q => exact h.requested 0x16 q hs
  | spurRestore q => exact h.requested 0x17 q hs
  | bayClear q => exact h.requested 0x18 q hs
  | listRead q => exact h.requested 0x19 q hs
  | counterSetup q => exact h.requested 0x1A q hs
  | counterRead q => exact h.requested 0x1B q hs
  | counterClear q => exact h.requested 0x1C q hs
  | start q => exact h.requested 0x1D q hs
  | halt q => exact h.requested 0x1E q hs
  | resume q => exact h.requested 0x1F q hs
  | config q => exact h.requested 0x20 q hs
  | nodeReset q => exact h.requested 0x21 q hs
  | nodeResetTakesEffect q => exact h.nodeResetTakesEffect q hs
  | unknownKindRequest kind q => exact h.unknownKindRequest kind q hs
  | notice payload => exact h.finished (h.noticeArrives payload (h.frameArrives .U hs))
  | creditSync value => exact h.finished (h.sync value _ (h.frameArrives .D hs))
  | creditLocked g r => exact h.finished (h.locked g r _ (h.frameArrives .D hs))
  | frameForward q f | frameDrop q f => exact h.finished (h.wholeFrame q f hs)
  | frameAbandon q cs => exact h.finished (h.lineChars q cs hs)
  | tagRead cs | badTagRead cs => exact h.finished (h.tagChars cs hs)
  | encoderTransition a b => exact h.finished (h.encoderSample (a, b) hs)
  | entryEyeBlocked => exact h.edge .entry true hs
  | entryEyeClear => exact h.edge .entry false hs
  | gateEyeBlocked i => exact h.edge (.gate i) true hs
  | gateEyeClear i => exact h.edge (.gate i) false hs
  | confirmEyeBlocked k => exact h.edge (.confirm k) true hs
  | confirmEyeClear k => exact h.edge (.confirm k) false hs
  | frontEyeBlocked k => exact h.edge (.front k) true hs
  | frontEyeClear k => exact h.edge (.front k) false hs
  | eStopAssertion => exact h.eStopAssertion hs
  | eStopRelease => exact h.eStopRelease hs
  | speedSample => exact h.finished (h.speed s hs)
  | paddlePulseExpiry k => exact h.onExpiry (h.paddle k) _ hs
  | gatePulseExpiry i => exact h.onExpiry (h.gate i) _ hs
  | releaseTimerExpiry i => exact h.onExpiry (h.release i) _ hs
  | chimeExpiry k => exact h.onExpiry (h.chime k) _ hs
  | chuteJamExpiry k => exact h.onExpiry (h.jam k) _ hs
  | lampStepExpiry k =>
    refine ⟨_, rfl, ?_⟩
    split
    · exact h.finish _ (h.lamp k s hs)
    · exact hs
  | creditRefresh => exact h.finished (h.refresh s hs)
  | millisecondTick => exact h.finished (h.tick s hs)
  | frameSent q => exact h.frameSent q hs

/-- The sample period and every command keep what the acts keep. -/
theorem step {t : State} (hstep : step s = .next t) (hs : p s) : p t := by
  cases hp : s.pending with
  | nil =>
    obtain rfl := Host.Outcome.next.inj ((step_of_idle hp).symm.trans hstep)
    exact h.sample s hs
  | cons c rest =>
    obtain ⟨u, hu, hkept⟩ := h.exec c (h.queue rest s hs)
    have hexec : Machine.step s = Machine.exec c { s with pending := rest } := by rw [Machine.step, hp]
    obtain rfl := Host.Outcome.next.inj ((hu.symm.trans hexec.symm).trans hstep)
    exact hkept

end KeptByActs

end Sys2Proof.Steps
end

section
/-! The bay places a state has booked: the reserved counts, and the LAND decisions that hold them (R73 to R75). -/

namespace Sys2Proof.Bookings

open Sys2Proof.Machine Sys2Proof.Safety

/-! ### The ledger -/

/-- What the law of R75 reads: the decisions of the zone records and of the grants, and the reserved counts. -/
structure Ledger where
  zone : List Decision
  grant : Ix → Option Decision
  reserved : Ix → Nat

/-- The decision a GRANTED spur's front record has. -/
def decisionOf (x : Spur) : Option Decision := x.st.grant?.map Grant.decision

def ledgerOf (s : State) : Ledger where
  zone := s.zone.map Tote.decision
  grant i := decisionOf (s.spurs.get i)
  reserved k := (s.bays.get k).reserved

/-- How many of three values a test keeps. -/
def holders {α : Type} (test : α → Bool) (g : Ix → α) : Nat := (Ix.all.filter fun i => test (g i)).length

/-- A grant's decision is LAND at bay k. -/
def landsAt (k : Ix) (d : Option Decision) : Bool := decide (d = some (.land k))

namespace Ledger

def withZone (z : List Decision) (l : Ledger) : Ledger := { l with zone := z }

def setGrant (i : Ix) (d : Option Decision) (l : Ledger) : Ledger := { l with grant := Function.update l.grant i d }

/-- The place that goes with a decision is taken (R73). -/
def reserve (d : Decision) (l : Ledger) : Ledger :=
  { l with reserved := fun k => l.reserved k + if d = .land k then 1 else 0 }

/-- The place that goes with a decision is given back (R74). -/
def release (d : Decision) (l : Ledger) : Ledger :=
  { l with reserved := fun k => l.reserved k - if d = .land k then 1 else 0 }

/-- Every reserved count equals the LAND decisions that hold it, and at most one spur is GRANTED (R75). -/
def Matched (l : Ledger) : Prop :=
  (∀ k, l.reserved k = l.zone.count (.land k) + holders (landsAt k) l.grant) ∧ holders Option.isSome l.grant ≤ 1

end Ledger

theorem isSome_decisionOf (x : Spur) : (decisionOf x).isSome = x.st.isGranted := by
  unfold decisionOf
  cases x.st <;> rfl

theorem landsAt_decisionOf (k : Ix) (x : Spur) :
    landsAt k (decisionOf x) = x.st.grant?.any fun g => decide (g.decision = .land k) := by
  unfold landsAt decisionOf
  cases x.st.grant? <;> simp

theorem count_decisions (k : Ix) (zone : List Tote) :
    (zone.map Tote.decision).count (.land k) = (zone.filter fun t => decide (t.decision = .land k)).length := by
  rw [List.count, List.countP_map, List.countP_eq_length_filter]
  rfl

theorem reservedSound_iff (s : State) : ReservedSound s ↔ (ledgerOf s).Matched := by
  unfold ReservedSound Ledger.Matched
  rw [Ix.forall_all]
  simp only [ledgerOf, holders, isSome_decisionOf, landsAt_decisionOf, count_decisions]
  rfl

/-! ### Entries of the ledger -/

theorem holders_update {α : Type} (test : α → Bool) (g : Ix → α) (i : Ix) (a : α) :
    holders test (Function.update g i a) + (if test (g i) then 1 else 0) = holders test g + if test a then 1 else 0 := by
  have hsum : ∀ f : Ix → α, holders test f =
      (if test (f .i0) then 1 else 0) + (if test (f .i1) then 1 else 0) + if test (f .i2) then 1 else 0 := fun f => by
    simp only [holders, Ix.all, List.filter]
    cases test (f .i0) <;> cases test (f .i1) <;> cases test (f .i2) <;> rfl
  rw [hsum, hsum]
  cases i <;> simp <;> omega

theorem landsAt_some (k : Ix) (d : Decision) : landsAt k (some d) = decide (d = .land k) := by
  simp [landsAt]

namespace Ledger

variable {l : Ledger} {d : Decision} {z z' : List Decision}

theorem matched_perm (hz : z.Perm z') (h : (l.withZone z).Matched) : (l.withZone z').Matched :=
  ⟨fun k => (h.1 k).trans (by rw [withZone, hz.count_eq]; rfl), h.2⟩

theorem matched_pass_iff : (l.withZone (.pass :: z)).Matched ↔ (l.withZone z).Matched := by
  simp [Matched, withZone]

theorem matched_reserve (h : (l.withZone z).Matched) : ((l.reserve d).withZone (d :: z)).Matched := by
  refine ⟨fun k => ?_, h.2⟩
  have hk : l.reserved k = z.count (.land k) + holders (landsAt k) l.grant := h.1 k
  simp only [withZone, reserve, List.count_cons, beq_iff_eq, hk]
  omega

theorem matched_release (h : (l.withZone (d :: z)).Matched) : ((l.release d).withZone z).Matched := by
  refine ⟨fun k => ?_, h.2⟩
  have hk : l.reserved k = (d :: z).count (.land k) + holders (landsAt k) l.grant := h.1 k
  simp only [List.count_cons, beq_iff_eq] at hk
  simp only [withZone, release, hk]
  omega

theorem holders_isSome_eq_zero (h : ∀ i, l.grant i = none) : holders Option.isSome l.grant = 0 := by
  simp [holders, h]

/-- A decision is handed over to a grant, the only one. -/
theorem matched_startGrant {i : Ix} (hnone : ∀ j, l.grant j = none) (h : (l.withZone (d :: z)).Matched) :
    ((l.setGrant i (some d)).withZone z).Matched := by
  refine ⟨fun k => ?_, ?_⟩
  · have hk : l.reserved k = (d :: z).count (.land k) + holders (landsAt k) l.grant := h.1 k
    have hlands := holders_update (landsAt k) l.grant i (some d)
    simp only [List.count_cons, beq_iff_eq] at hk
    simp only [hnone, landsAt_some, decide_eq_true_eq] at hlands
    have hno : landsAt k none = false := rfl
    simp only [hno, Bool.false_eq_true, if_false] at hlands
    change l.reserved k = z.count (.land k) + holders (landsAt k) (Function.update l.grant i (some d))
    omega
  · have hgranted := holders_update Option.isSome l.grant i (some d)
    rw [holders_isSome_eq_zero hnone, hnone] at hgranted
    exact le_of_eq hgranted

/-- The decision of a grant that ends is handed back. -/
theorem matched_endGrant {i : Ix} (hi : l.grant i = some d) (h : (l.withZone z).Matched) :
    ((l.setGrant i none).withZone (d :: z)).Matched := by
  refine ⟨fun k => ?_, ?_⟩
  · have hk : l.reserved k = z.count (.land k) + holders (landsAt k) l.grant := h.1 k
    have hlands := holders_update (landsAt k) l.grant i none
    have hno : landsAt k none = false := rfl
    simp only [hi, landsAt_some, decide_eq_true_eq, hno, Bool.false_eq_true, if_false] at hlands
    change l.reserved k = (d :: z).count (.land k) + holders (landsAt k) (Function.update l.grant i none)
    simp only [List.count_cons, beq_iff_eq]
    omega
  · have hgranted := holders_update Option.isSome l.grant i none
    have hone : holders Option.isSome l.grant ≤ 1 := h.2
    change holders Option.isSome (Function.update l.grant i none) ≤ 1
    simp only [Option.isSome_none, Bool.false_eq_true, if_false] at hgranted
    omega

/-- A grant that ends without its tote gives its place back (R111, R113). -/
theorem matched_cancelGrant {i : Ix} (hi : l.grant i = some d) (h : l.Matched) : ((l.release d).setGrant i none).Matched :=
  matched_release (l := l.setGrant i none) (z := l.zone) (matched_endGrant hi h)

theorem matched_empty : (⟨[], fun _ => none, fun _ => 0⟩ : Ledger).Matched := by
  simp [Matched, holders, landsAt]

end Ledger

end Sys2Proof.Bookings
end

section
/-! The acts that leave the bookings as they are. -/

namespace Sys2Proof.Bookings

open Sys2Proof.Machine

/-! ### Changes of one field, bay or spur -/

theorem ledgerOf_eq {s t : State} (zone : t.zone.map Tote.decision = s.zone.map Tote.decision)
    (spurs : ∀ i, decisionOf (t.spurs.get i) = decisionOf (s.spurs.get i))
    (bays : ∀ k, (t.bays.get k).reserved = (s.bays.get k).reserved) : ledgerOf t = ledgerOf s := by
  unfold ledgerOf
  simp only [zone, spurs, bays]

theorem ledgerOf_withZone (z : List Tote) (s : State) :
    ledgerOf { s with zone := z } = (ledgerOf s).withZone (z.map Tote.decision) := rfl

theorem ledgerOf_modBay {k : Ix} {f : Bay → Bay} {s : State} (h : ∀ b, (f b).reserved = b.reserved) :
    ledgerOf (s.modBay k f) = ledgerOf s :=
  ledgerOf_eq rfl (fun _ => rfl) fun j => by rw [State.modBay_bays_get]; split <;> simp only [h]

theorem ledgerOf_modSpur (i : Ix) (f : Spur → Spur) (s : State) :
    ledgerOf (s.modSpur i f) = (ledgerOf s).setGrant i (decisionOf (f (s.spurs.get i))) := by
  have hgrant : (fun j => decisionOf ((s.modSpur i f).spurs.get j)) =
      Function.update (fun j => decisionOf (s.spurs.get j)) i (decisionOf (f (s.spurs.get i))) := by
    funext j
    rw [State.modSpur_spurs_get, Function.update_apply]
    split
    · next h => rw [h]
    · rfl
  unfold ledgerOf Ledger.setGrant
  rw [hgrant]
  rfl

theorem ledgerOf_modSpur_same {i : Ix} {f : Spur → Spur} {s : State}
    (h : decisionOf (f (s.spurs.get i)) = decisionOf (s.spurs.get i)) : ledgerOf (s.modSpur i f) = ledgerOf s := by
  rw [ledgerOf_modSpur, h, Ledger.setGrant, show decisionOf (s.spurs.get i) = (ledgerOf s).grant i from rfl,
    Function.update_eq_self]

theorem decisionOf_eq_none {x : Spur} (h : ∀ g, x.st ≠ .granted g) : decisionOf x = none := by
  unfold decisionOf
  cases hst : x.st with
  | granted g => exact absurd hst (h g)
  | _ => rfl

/-! ### Reports, events, notices, claims and frames -/

@[simp] theorem ledgerOf_report (k : ReportKind) (d : Nat) (tag : BitVec 32) (order : BitVec 24) (s : State) :
    ledgerOf (s.report k d tag order) = ledgerOf s := by
  rw [State.report_frame]; rfl

@[simp] theorem ledgerOf_offer (e : EventCode) (k : Option Cls) (q : Option Nat) (s : State) :
    ledgerOf (s.offer e k q) = ledgerOf s := rfl

@[simp] theorem ledgerOf_expireTag (s : State) : ledgerOf s.expireTag = ledgerOf s := by
  rw [State.expireTag_frame]; rfl

@[simp] theorem ledgerOf_takeTag (s : State) : ledgerOf s.takeTag.2 = ledgerOf s := by
  unfold State.takeTag; split <;> rfl

@[simp] theorem ledgerOf_reportMissing (d : Nat) (ns : List Notice) (s : State) :
    ledgerOf (s.reportMissing d ns) = ledgerOf s := by
  rw [State.reportMissing_frame]; rfl

@[simp] theorem ledgerOf_dropOverdue (s : State) : ledgerOf s.dropOverdue = ledgerOf s := by
  rw [State.dropOverdue_frame]; rfl

@[simp] theorem ledgerOf_finish (s : State) : ledgerOf s.finish = ledgerOf s := by
  rw [State.finish_frame]; rfl

@[simp] theorem ledgerOf_grantCredits (s : State) : ledgerOf s.grantCredits = ledgerOf s := rfl

@[simp] theorem ledgerOf_announceExit (t : Tote) (s : State) : ledgerOf (s.announceExit t) = ledgerOf s := by
  rw [State.announceExit_frame]; rfl

theorem ledgerOf_reportIf (k : ReportKind) (d : Nat) (tag : BitVec 32) (order : BitVec 24) (s : State) :
    ledgerOf (Claims.reportIf k d tag order s) = ledgerOf s := by
  unfold Claims.reportIf; split <;> simp

@[simp] theorem ledgerOf_mismatchReported (t : Tote) (len : Nat) (s : State) :
    ledgerOf (Belt.mismatchReported t len s) = ledgerOf s := by
  unfold Belt.mismatchReported; split <;> simp

/-- A claim is made by a RIDING record, which is PASS before and after (R147). -/
theorem claimWalk_decisions (P : Pos) (hold : Nat) (l : List Tote) (c : CreditUnit) :
    (claimWalk P hold l c).1.map Tote.decision = l.map Tote.decision := by
  induction l generalizing c with
  | nil => rfl
  | cons t l ih =>
    unfold claimWalk
    split
    · next len htrack =>
      have hpass : t.decision = .pass := by rw [Tote.decision, htrack]
      split
      · split
        · exact congrArg₂ List.cons hpass.symm (ih _)
        · rfl
      · rfl
    · exact congrArg (t.decision :: ·) (ih _)
    · rfl

@[simp] theorem ledgerOf_claims (s : State) : ledgerOf s.claims = ledgerOf s := by
  unfold State.claims
  split
  · rfl
  · exact ledgerOf_eq (claimWalk_decisions ..) (fun _ => rfl) fun _ => rfl

@[simp] theorem ledgerOf_admission (q : Byte) (i : Ident) (s : State) : ledgerOf (s.admission q i).1 = ledgerOf s := by
  have hsync : ledgerOf (s.noticeInSync q i) =
      ledgerOf (if s.credit.o = 0 then s.report .noticeBeyondCredit 0 i.tag i.order else s) := rfl
  have hlocked : ledgerOf (s.noticeLocked q i) = ledgerOf s := by
    have hgap : ledgerOf (Entry.gapReported q i s) = ledgerOf s := by
      simp only [Entry.gapReported]
      split <;> simp
    by_cases hleft : (s.credit.g - (q + 1)).toNat < 128
    · rw [Entry.noticeLocked_within hleft]; exact hgap
    · rw [Entry.noticeLocked_overdrawn (Nat.not_lt.mp hleft)]
      exact (ledgerOf_report .noticeBeyondCredit 1 i.tag i.order _).trans hgap
  unfold State.admission
  split
  · rw [hsync]
    split <;> simp
  · split
    · exact ledgerOf_report ..
    · exact hlocked

@[simp] theorem ledgerOf_trackNotice (i : Ident) (s : State) : ledgerOf (s.trackNotice i) = ledgerOf s := by
  unfold State.trackNotice
  split
  · exact ledgerOf_report ..
  · exact ledgerOf_dropOverdue _

/-! ### Order assembly (R87 to R97, R121 to R128) -/

theorem reserved_fallToDark (b : Bay) : b.fallToDark.reserved = b.reserved := by
  unfold Bay.fallToDark; split <;> rfl

theorem reserved_orderGone (c : Cls) (b : Bay) : (b.orderGone c).reserved = b.reserved := reserved_fallToDark _

theorem reserved_degradeLast (b : Bay) : b.degradeLast.reserved = b.reserved := by
  unfold Bay.degradeLast; split <;> rfl

theorem ledgerOf_singleLanding (k : Ix) (r : LandingRec) (s : State) : ledgerOf (s.singleLanding k r) = ledgerOf s :=
  (ledgerOf_report ..).trans (ledgerOf_modBay fun _ => rfl)

theorem ledgerOf_degradedLanding (why : ReportKind) (k : Ix) (r : LandingRec) (s : State) :
    ledgerOf (s.degradedLanding why k r) = ledgerOf s :=
  (ledgerOf_singleLanding ..).trans ((ledgerOf_report ..).trans (ledgerOf_modBay reserved_degradeLast))

theorem ledgerOf_declareReady (e : GroupEntry) (r : LandingRec) (s : State) :
    ledgerOf (s.declareReady e r) = ledgerOf s := by
  refine (ledgerOf_report ..).trans (ledgerOf_eq rfl (fun _ => rfl) fun k => ?_)
  simp only [Tri.get_ofFn]
  split <;> rfl

theorem ledgerOf_countLanding (k : Ix) (r : LandingRec) (e : GroupEntry) (s : State) :
    ledgerOf (s.countLanding k r e) = ledgerOf s := by
  unfold State.countLanding
  simp only []
  split
  · exact ledgerOf_declareReady ..
  · rfl

@[simp] theorem ledgerOf_assemblyLanding (k : Ix) (r : LandingRec) (s : State) :
    ledgerOf (s.assemblyLanding k r) = ledgerOf s := by
  unfold State.assemblyLanding
  split
  · exact ledgerOf_singleLanding ..
  · split
    · split
      · exact ledgerOf_degradedLanding ..
      · exact ledgerOf_countLanding ..
    · split
      · exact ledgerOf_countLanding ..
      · exact ledgerOf_degradedLanding ..

theorem ledgerOf_memberTaken (k : Ix) (r : LandingRec) (e : GroupEntry) (s : State) :
    ledgerOf (s.memberTaken k r e) = ledgerOf s := by
  have hcounted : ledgerOf (Totes.memberCounted k e s) = ledgerOf s := by
    unfold Totes.memberCounted
    split
    · exact ledgerOf_modBay (reserved_orderGone e.cls)
    · rfl
  rw [Totes.memberTaken_eq]
  split
  · exact (ledgerOf_report ..).trans hcounted
  · exact hcounted

theorem ledgerOf_assemblyTaken (k : Ix) (r : LandingRec) (s : State) : ledgerOf (s.assemblyTaken k r) = ledgerOf s := by
  unfold State.assemblyTaken
  split
  · exact (ledgerOf_report ..).trans (ledgerOf_modBay (reserved_orderGone r.cls))
  · split
    · exact ledgerOf_memberTaken ..
    · rfl

theorem ledgerOf_takeFront (k : Ix) (d : Nat) (s : State) : ledgerOf (s.takeFront k d) = ledgerOf s := by
  unfold State.takeFront
  split
  · rfl
  · next r rest _ =>
    have htaken : ledgerOf (if s.params.reportLandings = 1 then
        (s.modBay k fun b => { b with landing := rest }).report .taken d r.tag r.order
        else s.modBay k fun b => { b with landing := rest }) = ledgerOf s := by
      split
      · exact (ledgerOf_report ..).trans (ledgerOf_modBay fun _ => rfl)
      · exact ledgerOf_modBay fun _ => rfl
    simp only []
    split
    · exact htaken
    · exact (ledgerOf_assemblyTaken ..).trans htaken

theorem ledgerOf_takeMany (k : Ix) (d n : Nat) (s : State) : ledgerOf (State.takeMany k d n s) = ledgerOf s := by
  induction n generalizing s with
  | zero => rfl
  | succ n ih => exact (ih _).trans (ledgerOf_takeFront k d s)

theorem ledgerOf_frontCleared (k : Ix) (s : State) : ledgerOf (s.frontCleared k) = ledgerOf s := by
  unfold State.frontCleared
  split
  · rfl
  · exact ledgerOf_takeFront ..

theorem ledgerOf_landUnexpected (k : Ix) (s : State) : ledgerOf (s.landUnexpected k) = ledgerOf s := by
  unfold State.landUnexpected
  split
  · exact (ledgerOf_report ..).trans (ledgerOf_modBay fun _ => rfl)
  · exact ledgerOf_report ..

theorem ledgerOf_confirmCleared (k : Ix) (s : State) : ledgerOf (s.confirmCleared k) = ledgerOf s := by
  unfold State.confirmCleared
  simp only []
  split
  · exact (ledgerOf_report ..).trans (ledgerOf_modBay fun _ => rfl)
  · exact ledgerOf_modBay fun _ => rfl

theorem ledgerOf_chuteJammed (k : Ix) (s : State) : ledgerOf (s.chuteJammed k) = ledgerOf s := by
  unfold State.chuteJammed
  simp only []
  split
  · exact ledgerOf_modBay fun _ => rfl
  · exact (ledgerOf_report ..).trans (ledgerOf_modBay fun _ => rfl)

/-! ### Spurs without a grant, and the clock -/

/-- A tote that comes to the gate of an EMPTY spur (R103, R104). -/
theorem ledgerOf_toteAtGate {i : Ix} {s : State} (h : (s.spurs.get i).st = .empty) :
    ledgerOf (s.toteAtGate i) = ledgerOf s := by
  have hnone : decisionOf (s.spurs.get i) = none := decisionOf_eq_none fun g hg => by rw [h] at hg; cases hg
  unfold State.toteAtGate
  split
  · exact ledgerOf_modSpur_same hnone.symm
  · exact (ledgerOf_report ..).trans (ledgerOf_modSpur_same hnone.symm)

/-- The front record of a spur that is not GRANTED is lost (R105, R115). -/
theorem ledgerOf_loseFront {i : Ix} {s : State} (h : ∀ g, (s.spurs.get i).st ≠ .granted g) (d : Nat) :
    ledgerOf (s.loseFront i d) = ledgerOf s := by
  have hlost : ledgerOf (s.modSpur i fun x => { x with st := .empty, list := x.list.tail }) = ledgerOf s :=
    ledgerOf_modSpur_same (decisionOf_eq_none h).symm
  unfold State.loseFront
  simp only []
  split
  · exact (ledgerOf_report ..).trans hlost
  · exact hlost

/-- The paddle pulses stopped at a halt (R83). -/
theorem ledgerOf_cutPulses (s : State) : ledgerOf { s with bays := s.bays.map Bay.cutPulse } = ledgerOf s :=
  ledgerOf_eq rfl (fun _ => rfl) fun k => by simp only [Tri.get_map]; rfl

theorem ledgerOf_tick (s : State) : ledgerOf s.tick = ledgerOf s := by
  refine ledgerOf_eq rfl (fun i => ?_) fun k => ?_ <;> simp only [State.tick, Tri.get_map] <;> rfl

theorem ledgerOf_samplePeriod (s : State) : ledgerOf s.samplePeriod = ledgerOf s := by
  rw [Belt.samplePeriod_frame]; rfl

end Sys2Proof.Bookings
end

section
/-! The acts that book places and give them back (R66, R73, R74, R79 to R89, R109 to R114, R157). -/

namespace Sys2Proof.Bookings

open Sys2Proof.Machine Sys2Proof.Claims Sys2Proof.Belt

/-- The law of R75 for a state whose zone list is left open: z stands for its decisions. -/
def Booked (z : List Decision) (s : State) : Prop := ((ledgerOf s).withZone z).Matched

/-- The law of R75. -/
def Sound (s : State) : Prop := (ledgerOf s).Matched

theorem Sound.of_eq {s t : State} (h : ledgerOf t = ledgerOf s) (hs : Sound s) : Sound t := by
  rwa [Sound, h]

theorem booked_iff_sound (s : State) : Booked (s.zone.map Tote.decision) s ↔ Sound s := Iff.rfl

theorem ledgerOf_releaseDecision (d : Decision) (s : State) :
    ledgerOf (s.releaseDecision d) = (ledgerOf s).release d := by
  cases d with
  | pass => simp [State.releaseDecision, Ledger.release]
  | land k =>
    unfold State.releaseDecision State.release ledgerOf Ledger.release
    congr 1
    funext j
    rw [State.modBay_bays_get]
    by_cases hj : j = k
    · simp [hj]
    · simp [hj, Ne.symm hj]

theorem ledgerOf_reserve (d : Decision) (s : State) : ledgerOf (s.reserve d) = (ledgerOf s).reserve d := by
  cases d with
  | pass => simp [State.reserve, Ledger.reserve]
  | land k =>
    unfold State.reserve ledgerOf Ledger.reserve
    congr 1
    funext j
    rw [State.modBay_bays_get]
    by_cases hj : j = k
    · simp [hj]
    · simp [hj, Ne.symm hj]

/-! ### Tests of a zone record (R81, R86) -/

/-- A test of a zone record leaves the bookings alone, or gives the record's place back and makes it PASS. -/
def Settles (t : Tote) (s : State) (r : Tote × State) : Prop :=
  (ledgerOf r.2 = ledgerOf s ∧ r.1.decision = t.decision) ∨
    (ledgerOf r.2 = (ledgerOf s).release t.decision ∧ r.1.decision = .pass)

theorem ledgerOf_missEffects (c : MissCause) (k : Ix) (i : Ident) (s : State) :
    ledgerOf (s.missEffects c k i) = (ledgerOf s).release (.land k) :=
  (ledgerOf_report ..).trans (ledgerOf_releaseDecision (.land k) s)

theorem settles_missed {t : Tote} {k : Ix} (ht : t.decision = .land k) (c : MissCause) (len : Nat) (s : State) :
    Settles t s (t.missed len, s.missEffects c k t.ident) :=
  .inr ⟨by rw [ht, ledgerOf_missEffects], rfl⟩

theorem settles_testArmed (t : Tote) (s : State) : Settles t s (s.testArmed t) := by
  unfold State.testArmed
  split
  · next len k base late target htrack =>
    have ht : t.decision = .land k := by rw [Tote.decision, htrack]
    split
    · exact settles_missed ht ..
    · split
      · split
        · exact settles_missed ht ..
        · split
          · exact settles_missed ht ..
          · exact .inl ⟨ledgerOf_modBay fun _ => rfl, ht.symm⟩
        · exact .inl ⟨rfl, rfl⟩
      · exact .inl ⟨rfl, rfl⟩
  · exact .inl ⟨rfl, rfl⟩

theorem settles_testDivert (t : Tote) (s : State) : Settles t s (s.testDivert t) := by
  unfold State.testDivert
  split
  · next len k base fired windowEnd htrack =>
    have ht : t.decision = .land k := by rw [Tote.decision, htrack]
    split
    · exact settles_missed ht ..
    · exact .inl ⟨rfl, rfl⟩
  · exact settles_testArmed t s

theorem Settles.booked {t : Tote} {s : State} {r : Tote × State} {z : List Decision} (h : Settles t s r)
    (hs : Booked (t.decision :: z) s) : Booked (r.1.decision :: z) r.2 := by
  unfold Booked at hs ⊢
  rcases h with ⟨hledger, hdecision⟩ | ⟨hledger, hdecision⟩ <;> rw [hledger, hdecision]
  · exact hs
  · exact Ledger.matched_pass_iff.mpr (Ledger.matched_release hs)

theorem Booked.perm {z z' : List Decision} {s : State} (h : Booked z s) (hz : z.Perm z') : Booked z' s :=
  Ledger.matched_perm hz h

/-- The records before those of z are tested one by one. -/
theorem booked_walkZone {test : Tote → State → Tote × State} (h : ∀ t s, Settles t s (test t s)) (l : List Tote)
    {z : List Decision} {s : State} (hs : Booked (l.map Tote.decision ++ z) s) :
    Booked ((walkZone test l s).1.map Tote.decision ++ z) (walkZone test l s).2 := by
  induction l generalizing s z with
  | nil => exact hs
  | cons t l ih =>
    have htested := ((h t s).booked hs).perm List.perm_middle.symm
    exact (ih htested).perm List.perm_middle

theorem sound_divertTests {test : Tote → State → Tote × State} (h : ∀ t s, Settles t s (test t s)) {s : State}
    (hs : Sound s) : Sound (s.divertTests test) := by
  have hwalk := booked_walkZone h s.zone (z := []) (by rwa [List.append_nil])
  rwa [List.append_nil] at hwalk

/-! ### The exit (R55 to R59) -/

theorem ledgerOf_exitFront (t : Tote) (rest : List Tote) (s : State) :
    ledgerOf (s.exitFront t rest) = ((ledgerOf s).release t.decision).withZone (rest.map Tote.decision) := by
  rw [Entry.exitFront_eq, ledgerOf_announceExit, Entry.frontGone, State.exitStillLand]
  split
  · next hpass => rw [hpass]; simp [Ledger.release, Ledger.withZone, ledgerOf]
  · next k hland => rw [ledgerOf_missEffects, hland]; rfl

theorem sound_exitFront {s : State} {t : Tote} {rest : List Tote} (hz : s.zone = t :: rest) (hs : Sound s) :
    Sound (s.exitFront t rest) := by
  rw [← booked_iff_sound, hz] at hs
  rw [Sound, ledgerOf_exitFront]
  exact Ledger.matched_release hs

theorem sound_exitLoop (n : Nat) {s : State} (hs : Sound s) : Sound (State.exitLoop n s) := by
  induction n generalizing s with
  | zero => exact hs
  | succ n ih =>
    cases hz : s.zone with
    | nil => rwa [Entry.exitLoop_of_empty hz]
    | cons t rest =>
      rw [Entry.exitLoop_succ hz]
      split
      · exact ih ((sound_exitFront hz hs).of_eq (ledgerOf_claims _))
      · exact hs

theorem sound_exitTests {s : State} (hs : Sound s) : Sound s.exitTests :=
  sound_exitLoop _ (hs.of_eq (ledgerOf_claims s))

/-! ### Route decisions and grants (R66 to R73, R109) -/

theorem decision_of_flag {s : State} {i : Ident}
    (h : (s.routeChoice i).noRoute = true ∨ (s.routeChoice i).overflow = true) : (s.routeChoice i).decision = .pass := by
  revert h
  unfold State.routeChoice
  split
  · exact fun _ => rfl
  · split
    · exact fun _ => rfl
    · split
      · exact nofun
      · split
        · exact nofun
        · exact fun _ => rfl

/-- A route decision books the place it names (R73). -/
theorem ledgerOf_routeEffects {i : Ident} {o : RouteOutcome} (h : o.noRoute = true ∨ o.overflow = true → o.decision = .pass)
    (stray : Bool) (s : State) : ledgerOf (s.routeEffects i stray o) = (ledgerOf s).reserve o.decision := by
  have hpass : o.noRoute = true ∨ o.overflow = true → ledgerOf s = (ledgerOf s).reserve o.decision := fun hflag => by
    rw [h hflag]; simp [Ledger.reserve]
  unfold State.routeEffects
  split
  · next hflag =>
    rw [← hpass (.inl hflag)]
    split <;> simp
  · split
    · next hflag =>
      rw [← hpass (.inr hflag)]
      simp
    · exact ledgerOf_reserve ..

theorem ledgerOf_arbitrated (w : Ix) (s : State) : ledgerOf (arbitrated w s) = ledgerOf s :=
  ledgerOf_eq rfl (fun i => by rw [arbitrated, Tri.get_ofFn]; rfl) fun _ => rfl

theorem eligible_of_winner {s : State} {w : Ix} (h : s.winner (Ix.all.filter s.eligible) = some w) :
    s.eligible w = true := by
  have hw := List.find?_some h
  exact eligible_of_isCandidate ((mem_candidates_iff s w).mp (of_decide_eq_true hw))

theorem grant_of_noneGranted {s : State} (h : s.anyGranted = false) (i : Ix) : (ledgerOf s).grant i = none :=
  decisionOf_eq_none ((anyGranted_eq_false_iff s).mp h i)

/-- A grant is made where no spur is GRANTED, and books the place of its decision (R106, R109). -/
theorem sound_arbitrate {s : State} (hs : Sound s) : Sound s.arbitrate := by
  cases hwin : s.winner (Ix.all.filter s.eligible) with
  | none => simpa [State.arbitrate, hwin] using hs
  | some w =>
    have heligible := eligible_of_winner hwin
    obtain ⟨-, -, -, -, hnone, -, r, rest, hlist, -⟩ := (eligible_iff s w).mp heligible
    rw [arbitrate_of_winner hwin, grantSpur_arbitrated hlist, ← routeEffects_eq, Sound, ledgerOf_modSpur,
      ledgerOf_routeEffects decision_of_flag, ledgerOf_arbitrated]
    exact Ledger.matched_startGrant (l := (ledgerOf s).reserve _) (grant_of_noneGranted hnone) (Ledger.matched_reserve hs)

theorem sound_reTest {s : State} (hs : Sound s) : Sound s.reTest := sound_arbitrate hs

/-! ### The entry eye (R43 to R53, R79) -/

theorem sound_appendEntering (lead : Pos) (i : Ident) (stray noRead : Bool) {s : State} (hs : Sound s) :
    Sound (s.appendEntering lead i stray noRead) := by
  unfold State.appendEntering
  simp only []
  rw [Sound, ledgerOf_offer, ledgerOf_routeEffects decision_of_flag, ledgerOf_withZone, List.map_append]
  exact Ledger.matched_perm (l := (ledgerOf s).reserve (s.routeChoice i).decision)
    (List.perm_append_singleton ..).symm (Ledger.matched_reserve hs)

theorem sound_arrive (stamp : Pos) (tag : Option (BitVec 32)) {s : State} (hs : Sound s) : Sound (s.arrive stamp tag) := by
  unfold State.arrive
  split
  · exact sound_appendEntering _ _ _ _ (Sound.of_eq (ledgerOf_reportMissing ..) hs)
  · exact sound_appendEntering _ _ _ _ (Sound.of_eq (ledgerOf_report ..) hs)

theorem sound_entryLeading (e : Edge) {s : State} (hs : Sound s) : Sound (s.entryLeading e) := by
  unfold State.entryLeading
  split
  · exact hs
  split
  · exact hs
  have htag : Sound s.takeTag.2 := hs.of_eq (ledgerOf_takeTag s)
  split
  · exact htag.of_eq (ledgerOf_report ..)
  · exact sound_reTest (sound_exitTests ((sound_arrive _ _ htag).of_eq (ledgerOf_dropOverdue _)))

theorem sound_closeEntering {s : State} {init : List Tote} {t : Tote} {d : Decision} (hz : s.zone = init ++ [t])
    (ht : t.track = .entering d) (stamp : Pos) (hs : Sound s) : Sound (s.closeEntering stamp init t d) := by
  have hdecision : t.decision = d := by rw [Tote.decision, ht]
  have hbooked : Booked (d :: init.map Tote.decision) s := by
    rw [← booked_iff_sound, hz, List.map_append] at hs
    exact hdecision ▸ hs.perm (List.perm_append_singleton ..)
  have hlast : ∀ {x : State} {r : Tote}, Booked (r.decision :: init.map Tote.decision) x →
      Sound { x with zone := init ++ [r] } := fun {x r} hx => by
    rw [Sound, ledgerOf_withZone, List.map_append]
    exact hx.perm (List.perm_append_singleton ..).symm
  have hreported : Booked (d :: init.map Tote.decision) (mismatchReported t (measuredLength t.lead stamp) s) := by
    rwa [Booked, ledgerOf_mismatchReported]
  cases d with
  | pass => rw [closeEntering_pass]; exact hlast hreported
  | land k => rw [closeEntering_land]; exact hlast ((settles_testArmed _ _).booked hreported)

theorem sound_entryTrailing (e : Edge) {s : State} (hs : Sound s) : Sound (s.entryTrailing e) := by
  unfold State.entryTrailing
  split
  · exact hs
  split
  · next t hlast =>
    split
    · next d ht =>
      have hz : s.zone = s.zone.dropLast ++ [t] := (List.dropLast_append_getLast? t hlast).symm
      exact sound_reTest ((sound_closeEntering hz ht _ hs).of_eq (ledgerOf_claims _))
    · exact hs
  · exact hs

/-! ### Gate eyes (R102 to R114) -/

theorem grant_of_granted {s : State} {i : Ix} {g : Grant} (h : (s.spurs.get i).st = .granted g) :
    (ledgerOf s).grant i = some g.decision := by
  simp [ledgerOf, decisionOf, h, SpurState.grant?]

/-- A grant that ends with the tote still at the gate (R113, R114). -/
theorem sound_stickSpur (i : Ix) (d : Nat) {s : State} (hs : Sound s) : Sound (s.stickSpur i d) := by
  unfold State.stickSpur
  split
  · next g hg =>
    have hended : Sound ((s.releaseDecision g.decision).modSpur i fun x =>
        { x with st := .blocked, gateTimer := none, releaseTimer := none }) := by
      rw [Sound, ledgerOf_modSpur, ledgerOf_releaseDecision]
      exact Ledger.matched_cancelGrant (grant_of_granted hg) hs
    simp only []
    split
    · exact hended.of_eq (ledgerOf_report ..)
    · exact hended
  · exact hs

theorem sound_discardGranted {i : Ix} {g : Grant} {s : State} (hg : (s.spurs.get i).st = .granted g) (r : SpurRec)
    (why : ReportKind) (d : Nat) (hs : Sound s) : Sound (s.discardGranted i g r why d) := by
  unfold State.discardGranted
  rw [Sound, ledgerOf_report, ledgerOf_modSpur, ledgerOf_releaseDecision]
  exact Ledger.matched_cancelGrant (grant_of_granted hg) hs

theorem decision_mergedTote (s : State) (r : SpurRec) (g : Grant) : (s.mergedTote r g).decision = g.decision := by
  unfold State.mergedTote
  cases g.decision <;> rfl

theorem perm_decisions_insertByLead (t : Tote) (zone : List Tote) :
    ((insertByLead t zone).map Tote.decision).Perm (t.decision :: zone.map Tote.decision) := by
  obtain ⟨a, b, rfl, hinsert, -⟩ := insertByLead_place t zone
  rw [hinsert, ← List.map_cons]
  exact List.perm_middle.map Tote.decision

/-- The booked place of a grant goes to the record it becomes (R112). -/
theorem sound_insertGranted {i : Ix} {g : Grant} {s : State} (hg : (s.spurs.get i).st = .granted g) (r : SpurRec)
    (hs : Sound s) : Sound (s.insertGranted i g r) := by
  unfold State.insertGranted
  refine sound_exitTests ?_
  generalize hfreed : (s.modSpur i Spur.released).offer .mergeDone (some r.ident.cls) (some i.toNat) = u
  have hledger : ledgerOf u = (ledgerOf s).setGrant i none := by
    rw [← hfreed, ledgerOf_offer, ledgerOf_modSpur]; rfl
  have hbooked : Booked ((u.mergedTote r g).decision :: u.zone.map Tote.decision) u := by
    rw [Booked, decision_mergedTote, hledger, show u.zone = s.zone by rw [← hfreed]; rfl]
    exact Ledger.matched_endGrant (grant_of_granted hg) hs
  exact ((settles_testArmed _ u).booked hbooked).perm (perm_decisions_insertByLead ..).symm

theorem sound_gateReleased {i : Ix} {g : Grant} {s : State} (hg : (s.spurs.get i).st = .granted g) (stamp : Pos)
    (hs : Sound s) : Sound (s.gateReleased i stamp g) := by
  unfold State.gateReleased
  split
  · exact hs
  · split
    · exact sound_discardGranted hg _ _ _ hs
    · split
      · exact sound_discardGranted hg _ _ _ hs
      · exact sound_insertGranted hg _ hs

theorem sound_gateCleared (i : Ix) (e : Edge) {s : State} (hs : Sound s) : Sound (s.gateCleared i e) := by
  unfold State.gateCleared
  split
  · split
    · next hwaiting => exact hs.of_eq (ledgerOf_loseFront (fun g hg => by rw [hwaiting] at hg; cases hg) _)
    · next g hg => exact sound_reTest (sound_gateReleased hg _ hs)
    · exact hs
  · exact hs

theorem sound_gateBlocked (i : Ix) {s : State} (hs : Sound s) : Sound (s.gateBlocked i) := by
  unfold State.gateBlocked
  split
  · next hacts =>
    have hempty : (s.spurs.get i).st = .empty := by
      simp only [Bool.and_eq_true, decide_eq_true_eq] at hacts
      exact hacts.2
    exact sound_reTest (hs.of_eq (ledgerOf_toteAtGate hempty))
  · exact hs

/-! ### Confirm eyes (R87 to R91) -/

theorem takeConfirming_perm {k : Ix} {l rest : List Tote} {t : Tote} (h : takeConfirming k l = some (t, rest)) :
    t.decision = .land k ∧ l.Perm (t :: rest) := by
  induction l generalizing rest with
  | nil => cases h
  | cons a l ih =>
    by_cases ha : confirmingAt k a
    · rw [takeConfirming_cons_of_confirming ha] at h
      cases h
      exact ⟨ha.2, List.Perm.refl _⟩
    · rw [takeConfirming_cons_of_not ha] at h
      obtain ⟨⟨t', rest'⟩, hx, hpair⟩ := Option.map_eq_some_iff.mp h
      cases hpair
      obtain ⟨hdecision, hperm⟩ := ih hx
      exact ⟨hdecision, (hperm.cons a).trans (List.Perm.swap ..)⟩

theorem ledgerOf_landTote (k : Ix) (t : Tote) (rest : List Tote) (s : State) :
    ledgerOf (s.landTote k t rest) = ((ledgerOf s).release (.land k)).withZone (rest.map Tote.decision) := by
  have hgone : ledgerOf (landedRecord k rest s) = ((ledgerOf s).release (.land k)).withZone (rest.map Tote.decision) :=
    ledgerOf_releaseDecision (.land k) { s with zone := rest }
  by_cases hfull : 8 ≤ (s.bays.get k).landing.length
  · rw [landTote_full hfull, ledgerOf_offer, ledgerOf_reportIf, hgone]
  · rw [landTote_room (Nat.not_le.mp hfull), ledgerOf_assemblyLanding, ledgerOf_offer, ledgerOf_reportIf]
    refine (ledgerOf_modBay ?_).trans hgone
    exact fun _ => rfl

/-- A landed tote's place is given back (R74, R87). -/
theorem sound_landTote {k : Ix} {t : Tote} {rest : List Tote} {s : State} (h : takeConfirming k s.zone = some (t, rest))
    (hs : Sound s) : Sound (s.landTote k t rest) := by
  obtain ⟨hdecision, hperm⟩ := takeConfirming_perm h
  rw [← booked_iff_sound] at hs
  have hbooked : Booked (.land k :: rest.map Tote.decision) s := hdecision ▸ hs.perm (hperm.map Tote.decision)
  rw [Sound, ledgerOf_landTote]
  exact Ledger.matched_release hbooked

theorem sound_confirmBlocked (k : Ix) {s : State} (hs : Sound s) : Sound (s.confirmBlocked k) := by
  have hjam : Sound (s.startChuteJam k) := hs.of_eq (ledgerOf_modBay fun _ => rfl)
  unfold State.confirmBlocked
  split
  · next htaken => exact sound_reTest (sound_exitTests (sound_landTote htaken hjam))
  · exact hjam.of_eq (ledgerOf_landUnexpected ..)

/-! ### Stops, position changes and speed samples (R4, R80, R155, R157) -/

theorem sound_enterHalt (c : HaltCause) {s : State} (hs : Sound s) : Sound (s.enterHalt c) := by
  unfold State.enterHalt
  split
  · refine sound_stickSpur _ _ (sound_stickSpur _ _ (sound_stickSpur _ _ ?_))
    exact hs.of_eq ((ledgerOf_cutPulses _).trans (ledgerOf_report ..))
  · exact hs

theorem sound_enterConfig (s : State) : Sound s.enterConfig := by
  have hempty : ledgerOf s.enterConfig = ⟨[], fun _ => none, fun _ => 0⟩ := by
    unfold State.enterConfig ledgerOf
    simp only [Tri.get_map, State.report_zone]
    rfl
  rw [Sound, hempty]
  exact Ledger.matched_empty

theorem sound_positionChange {s : State} (hs : Sound s) : Sound s.positionChange := by
  have hdue : Sound s.expireTag.dropOverdue := (hs.of_eq (ledgerOf_expireTag s)).of_eq (ledgerOf_dropOverdue _)
  have hjam : Sound s.expireTag.dropOverdue.jamTest := by
    unfold State.jamTest
    split
    · exact sound_enterHalt .jam hdue
    · exact hdue
  exact sound_reTest (sound_exitTests (sound_divertTests settles_testDivert hjam))

theorem decision_aimed (comp : Tri Nat) (t : Tote) : (aimed comp t).decision = t.decision := by
  unfold aimed
  split
  · next h => rw [Tote.decision, Tote.decision, h]
  · rfl

theorem ledgerOf_retargeted (s : State) : ledgerOf (retargeted s) = ledgerOf s :=
  ledgerOf_eq (by simp [retargeted, Function.comp_def, decision_aimed]) (fun _ => rfl) fun _ => rfl

theorem sound_takeSample {s : State} (hs : Sound s) : Sound s.takeSample := by
  have hhalt : Sound (haltOnStall s) := by
    unfold haltOnStall
    split
    · exact sound_enterHalt .stall hs
    · exact hs
  have haimed := hhalt.of_eq (ledgerOf_retargeted _)
  rw [takeSample_eq]
  exact sound_reTest ((sound_divertTests settles_testArmed haimed).of_eq (ledgerOf_claims _))

end Sys2Proof.Bookings
end

section
/-! Every step keeps each reserved count equal to the LAND decisions that hold it (R75). -/

namespace Sys2Proof.Bookings

open Sys2Proof.Machine Sys2Proof.Claims Sys2Proof.Belt Sys2Proof.Safety Sys2Proof.Steps

/-! ### Requests and frames -/

theorem keeps_of_ledger {act : State → State} (h : ∀ s, ledgerOf (act s) = ledgerOf s) : Keeps Sound act :=
  fun s hs => hs.of_eq (h s)

/-- A request that keeps the law of R75 whatever its payload. -/
def SoundHandler (op : Handler) : Prop := ∀ p s, Sound s → Sound (op p s).1

theorem soundHandler_of_ledger {op : Handler} (h : ∀ p s, ledgerOf (op p s).1 = ledgerOf s) : SoundHandler op :=
  fun p s hs => hs.of_eq (h p s)

theorem soundHandler_of_read {op : Handler} (h : ∀ p s, (op p s).1 = s) : SoundHandler op :=
  soundHandler_of_ledger fun p s => by rw [h]

theorem soundHandler_spurNotice : SoundHandler reqSpurNotice := fun p s hs => by
  unfold reqSpurNotice
  split
  · exact hs
  split
  · exact hs
  split
  · exact hs
  · exact hs.of_eq (ledgerOf_modSpur_same rfl)

/-- A BLOCKED spur holds no grant, before or after (R115). -/
theorem soundHandler_spurRestore : SoundHandler reqSpurRestore := fun p s hs => by
  have hrestored : ∀ {i}, (s.spurs.get i).st = .blocked → Sound (s.restoreSpur i) := fun {i} hblocked => by
    have hnone : ∀ g, (s.spurs.get i).st ≠ .granted g := fun g hg => by rw [hblocked] at hg; cases hg
    unfold State.restoreSpur
    split
    · exact sound_reTest (hs.of_eq (ledgerOf_modSpur_same (decisionOf_eq_none hnone).symm))
    · exact hs.of_eq (ledgerOf_loseFront hnone _)
  unfold reqSpurRestore
  split
  · split
    · exact hs
    · split
      · next hblocked => exact hrestored hblocked
      · exact hs
  · exact hs

theorem soundHandler_bayClear : SoundHandler reqBayClear := fun p s hs => by
  unfold reqBayClear
  split
  · split
    · exact hs
    · split
      · exact hs
      · exact hs.of_eq (ledgerOf_takeMany ..)
  · exact hs

theorem sound_startNode {s : State} (hs : Sound s) : Sound s.startNode :=
  sound_reTest (hs.of_eq (ledgerOf_eq rfl (fun i => by simp only [Tri.get_map]) fun _ => rfl))

theorem soundHandler_start : SoundHandler reqStart := fun p s hs => by
  unfold reqStart
  split
  · exact hs
  split
  · exact hs
  split
  · exact hs
  split
  · exact hs
  · exact sound_startNode hs

theorem soundHandler_halt : SoundHandler reqHalt := fun p s hs => by
  unfold reqHalt
  split
  · exact hs
  · split
    · exact hs
    · exact hs
    · exact sound_reTest (sound_enterHalt .request hs)

theorem soundHandler_resume : SoundHandler reqResume := fun p s hs => by
  unfold reqResume
  split
  · exact hs
  split
  · exact hs
  split
  · exact hs
  · exact sound_reTest (hs.of_eq (ledgerOf_report ..))

theorem soundHandler_config : SoundHandler reqConfig := fun p s hs => by
  unfold reqConfig
  split
  · exact hs
  split
  · exact hs
  · exact sound_enterConfig s

theorem soundHandler_setParameters : SoundHandler reqSetParameters := soundHandler_of_ledger fun p s => by
  unfold reqSetParameters
  split
  · split
    · rfl
    · rw [writePairs_frame]; rfl
  · rfl

theorem soundHandler_routeWrite : SoundHandler reqRouteWrite := soundHandler_of_ledger fun p s => by
  unfold reqRouteWrite
  repeat' split
  all_goals rfl

theorem soundHandler_routeCommit : SoundHandler reqRouteCommit := soundHandler_of_ledger fun p s => by
  unfold reqRouteCommit
  split <;> rfl

theorem soundHandler_counterSetup : SoundHandler reqCounterSetup := soundHandler_of_ledger fun p s => by
  unfold reqCounterSetup
  repeat' split
  all_goals rfl

theorem soundHandler_counterClear : SoundHandler reqCounterClear := soundHandler_of_ledger fun p s => by
  unfold reqCounterClear
  repeat' split
  all_goals rfl

theorem soundHandler_handlerOf (kind : Byte) : SoundHandler (handlerOf kind) := by
  unfold handlerOf
  split
  · exact soundHandler_of_read Totes.reqInquire_state
  · exact soundHandler_setParameters
  · exact soundHandler_of_read Totes.reqReadParameters_state
  · exact soundHandler_routeWrite
  · exact soundHandler_routeCommit
  · exact soundHandler_of_read Totes.reqRouteRead_state
  · exact soundHandler_spurNotice
  · exact soundHandler_spurRestore
  · exact soundHandler_bayClear
  · exact soundHandler_of_read Totes.reqListRead_state
  · exact soundHandler_counterSetup
  · exact soundHandler_of_read Totes.reqCounterRead_state
  · exact soundHandler_counterClear
  · exact soundHandler_start
  · exact soundHandler_halt
  · exact soundHandler_resume
  · exact soundHandler_config
  · exact soundHandler_of_read Totes.reqNodeReset_state
  · exact soundHandler_of_read fun _ _ => rfl

theorem sound_takeNotice (q : Byte) (i : Ident) {s : State} (hs : Sound s) : Sound (s.takeNotice q i) := by
  have hadmitted : Sound (s.admission q i).1 := hs.of_eq (ledgerOf_admission ..)
  unfold State.takeNotice
  simp only []
  split
  · exact sound_reTest (hadmitted.of_eq (ledgerOf_trackNotice ..))
  · exact hadmitted

theorem sound_takeLocked (g r : Byte) {s : State} (hs : Sound s) : Sound (s.takeLocked g r) := by
  have hreported : Sound (s.reportResync g r) := by
    unfold State.reportResync
    split
    · exact hs.of_eq (ledgerOf_report ..)
    · exact hs
  exact sound_reTest (hreported.of_eq (ledgerOf_claims _))

/-! ### Edges and expiries -/

theorem sound_ownerOf (i : EyeId) (b : Bool) (e : Edge) {s : State} (hs : Sound s) : Sound (ownerOf i b e s) := by
  cases i <;> cases b
  · exact sound_entryTrailing e hs
  · exact sound_entryLeading e hs
  · exact sound_gateCleared _ e hs
  · exact sound_gateBlocked _ hs
  · exact hs.of_eq (ledgerOf_confirmCleared ..)
  · exact sound_confirmBlocked _ hs
  · exact hs.of_eq (ledgerOf_frontCleared ..)
  · exact hs

theorem sound_releaseExpired (i : Ix) {s : State} (hs : Sound s) :
    Sound ((s.stickSpur i i.toNat).modSpur i fun x => { x with releaseTimer := none }).reTest :=
  sound_reTest ((sound_stickSpur i i.toNat hs).of_eq (ledgerOf_modSpur_same rfl))

theorem sound_resetPart (s : State) : Sound s.resetPart :=
  have hreset : Sound State.reset := (reservedSound_iff State.reset).mp (by unfold ReservedSound; decide)
  hreset.of_eq rfl

/-! ### Every step -/

/-- Each act of the commands keeps the law of R75. -/
theorem soundIsKept : KeptByActs Sound where
  queue _ := keeps_of_ledger fun _ => rfl
  ports _ _ _ := keeps_of_ledger fun _ => rfl
  position _ := keeps_of_ledger fun _ => rfl
  eyes _ _ := keeps_of_ledger fun _ => rfl
  estop _ _ := keeps_of_ledger fun _ => rfl
  finish := keeps_of_ledger ledgerOf_finish
  sample := keeps_of_ledger ledgerOf_samplePeriod
  reset s _ := sound_resetPart s
  request kind := soundHandler_handlerOf kind
  notice q i _ := sound_takeNotice q i
  sync _ _ hs := sound_reTest (hs.of_eq (ledgerOf_claims _))
  locked g r _ := sound_takeLocked g r
  move _ := sound_positionChange
  halt c _ hs := sound_reTest (sound_enterHalt c hs)
  speed _ := sound_takeSample
  owner i b e _ := sound_ownerOf i b e
  paddle _ := keeps_of_ledger fun _ => ledgerOf_modBay fun _ => rfl
  gate _ := keeps_of_ledger fun _ => ledgerOf_modSpur_same rfl
  release i _ := sound_releaseExpired i
  chime _ := keeps_of_ledger fun _ => ledgerOf_modBay fun _ => rfl
  jam k := keeps_of_ledger (ledgerOf_chuteJammed k)
  lamp _ := keeps_of_ledger fun _ => ledgerOf_modBay fun _ => rfl
  refresh := keeps_of_ledger fun _ => rfl
  tick := keeps_of_ledger ledgerOf_tick

/-- Settles O56: a place is booked with the decision that takes it, moves with that decision from a grant to its record, and
is given back as the decision ends. -/
theorem stepsKeepReservationsMatched : Obligations.StepsKeepReservationsMatched := by
  unfold Obligations.StepsKeepReservationsMatched
  intro s t hs hstep
  exact (reservedSound_iff t).mpr (soundIsKept.step hstep ((reservedSound_iff s).mp hs))

end Sys2Proof.Bookings
end

section
/-! Route decisions (R66 to R73). -/

namespace Sys2Proof.Routes

open Sys2Proof.Machine Sys2Proof.Claims

/-! ### Free places and admission (R72) -/

theorem freePlaces_eq (s : State) (k : Ix) : freePlaces s k = s.freeCount k := by
  simp only [freePlaces, State.freeCount]
  omega

theorem admitsClass_iff (s : State) (k : Ix) (c : Cls) : s.admitsClass k c = true ↔ admitted s k c := by
  have hrush : 1 ≤ freePlaces s k ↔ 1 ≤ s.freeCount k := by rw [freePlaces_eq]; omega
  have hstaged : ((s.params.bay.get k).rush : Int) + 1 ≤ freePlaces s k ↔
      (s.params.bay.get k).rush + 1 ≤ s.freeCount k := by rw [freePlaces_eq]; omega
  cases c <;> simp [State.admitsClass, admitted, Params.bayEnabled, hrush, hstaged, and_assoc]

theorem admitsClass_eq_false {s : State} {k : Ix} {c : Cls} (h : ¬ admitted s k c) : s.admitsClass k c = false :=
  Bool.eq_false_iff.mpr (mt (admitsClass_iff s k c).mp h)

/-! ### The order of the bays -/

/-- The bays below k and the bays above it. -/
theorem all_split (k : Ix) :
    ∃ a b, Ix.all = a ++ k :: b ∧ (∀ j ∈ a, j.toNat < k.toNat) ∧ ∀ j ∈ b, k.toNat < j.toNat := by
  cases k with
  | i0 => exact ⟨[], [.i1, .i2], rfl, by decide, by decide⟩
  | i1 => exact ⟨[.i0], [.i2], rfl, by decide, by decide⟩
  | i2 => exact ⟨[.i0, .i1], [], rfl, by decide, by decide⟩

theorem find_lowest {p : Ix → Bool} {k : Ix} (hk : p k = true) (hlow : ∀ j, p j = true → k.toNat ≤ j.toNat) :
    Ix.all.find? p = some k := by
  obtain ⟨a, b, hall, hbelow, -⟩ := all_split k
  have hnone : a.find? p = none := List.find?_eq_none.mpr fun j hj hp => Nat.not_lt.mpr (hlow j hp) (hbelow j hj)
  rw [hall, List.find?_append, hnone, List.find?_cons_of_pos hk, Option.none_or]

/-! ### Group affinity (R68) -/

theorem permits_iff (e : RouteEntry) (k : Ix) : e.permits k = true ↔ permitted e k := by
  cases e <;> simp [RouteEntry.permits, permitted]

/-- Affinity searches the bays from the lowest for one that it would choose. -/
theorem affinity_eq_find (s : State) (e : RouteEntry) (i : Ident) :
    ∃ p : Ix → Bool, (∀ k, p k = true ↔ affine s e i k) ∧ s.affinity e i = Ix.all.find? p := by
  unfold State.affinity affine
  cases hgroup : i.group with
  | none => exact ⟨fun _ => false, by simp, rfl⟩
  | some g =>
    cases hfind : s.groups.find? fun x => decide (x.id = g.id) with
    | none => exact ⟨fun _ => false, by simp [hfind], by simp only [hfind]; rfl⟩
    | some x =>
      refine ⟨fun k => e.permits k && decide (0 < x.untaken.get k) && s.admitsClass k i.cls, fun k => ?_,
        by simp only [hfind]⟩
      simp [permits_iff, admitsClass_iff, hfind, and_assoc, and_comm (a := admitted s k i.cls)]

theorem affinity_of_lowest {s : State} {e : RouteEntry} {i : Ident} {k : Ix} (hk : affine s e i k)
    (hlow : ∀ j, affine s e i j → k.toNat ≤ j.toNat) : s.affinity e i = some k := by
  obtain ⟨p, hp, hfind⟩ := affinity_eq_find s e i
  rw [hfind]
  exact find_lowest ((hp k).mpr hk) fun j hj => hlow j ((hp j).mp hj)

theorem affinity_of_none {s : State} {e : RouteEntry} {i : Ident} (h : ∀ k, ¬ affine s e i k) : s.affinity e i = none := by
  obtain ⟨p, hp, hfind⟩ := affinity_eq_find s e i
  rw [hfind]
  exact List.find?_eq_none.mpr fun k _ => mt (hp k).mp (h k)

/-! ### The entry's own choice (R69, R70) -/

theorem entryChoice_primary {s : State} {p : Ix} {c : Cls} (h : admitted s p c) (a : Option Ix) :
    s.entryChoice (.land p a) c = some p := by
  simp [State.entryChoice, (admitsClass_iff s p c).mpr h]

theorem entryChoice_alternate {s : State} {p a : Ix} {c : Cls} (hp : ¬ admitted s p c) (ha : admitted s a c) :
    s.entryChoice (.land p (some a)) c = some a := by
  simp [State.entryChoice, admitsClass_eq_false hp, (admitsClass_iff s a c).mpr ha]

/-- Bays with fewer free places leave a best bay that has fewer as well, if any. -/
theorem foldl_betterBay_below {s : State} {n : Nat} {l : List Ix} (hl : ∀ j ∈ l, s.freeCount j < n) {best : Option Ix}
    (hbest : ∀ b ∈ best, s.freeCount b < n) : ∀ b ∈ l.foldl s.betterBay best, s.freeCount b < n := by
  induction l generalizing best with
  | nil => exact hbest
  | cons k l ih =>
    obtain ⟨hk, hl⟩ := List.forall_mem_cons.mp hl
    refine ih hl fun b hb => ?_
    cases best with
    | none => cases hb; exact hk
    | some b' =>
      rcases Option.some_inj.mp ((apply_ite some ..).trans hb) with rfl
      split
      · exact hk
      · exact hbest b' rfl

theorem betterBay_of_more {s : State} {best : Option Ix} {k : Ix} (h : ∀ b ∈ best, s.freeCount b < s.freeCount k) :
    s.betterBay best k = some k := by
  unfold State.betterBay
  split
  · rfl
  · exact if_pos (h _ rfl)

/-- Bays with no more free places do not displace the best one. -/
theorem foldl_betterBay_keeps {s : State} {k : Ix} {l : List Ix} (hl : ∀ j ∈ l, s.freeCount j ≤ s.freeCount k) :
    l.foldl s.betterBay (some k) = some k := by
  induction l with
  | nil => rfl
  | cons j l ih =>
    obtain ⟨hj, hl⟩ := List.forall_mem_cons.mp hl
    have hkept : s.betterBay (some k) j = some k := if_neg (Nat.not_lt.mpr hj)
    rw [List.foldl_cons, hkept, ih hl]

/-- A bay of the mask that admits the class. -/
def inBest (s : State) (m : Tri Bool) (c : Cls) (k : Ix) : Bool := m.get k && s.admitsClass k c

theorem inBest_iff {s : State} {m : Tri Bool} {c : Cls} {k : Ix} :
    inBest s m c k = true ↔ m.get k = true ∧ admitted s k c := by
  rw [inBest, Bool.and_eq_true_iff, admitsClass_iff]

theorem entryChoice_best_eq (s : State) (m : Tri Bool) (c : Cls) :
    s.entryChoice (.best m) c = (Ix.all.filter (inBest s m c)).foldl s.betterBay none := rfl

/-- BEST chooses the greatest free count, and the lowest bay that has it (R70). -/
theorem entryChoice_best {s : State} {m : Tri Bool} {k : Ix} {c : Cls} (hm : m.get k = true) (hk : admitted s k c)
    (hbest : ∀ j, m.get j = true → admitted s j c →
      freePlaces s j < freePlaces s k ∨ freePlaces s j = freePlaces s k ∧ k.toNat ≤ j.toNat) :
    s.entryChoice (.best m) c = some k := by
  obtain ⟨a, b, hall, hbelow, -⟩ := all_split k
  have hfree : ∀ {j}, inBest s m c j = true →
      s.freeCount j < s.freeCount k ∨ s.freeCount j = s.freeCount k ∧ k.toNat ≤ j.toNat := fun {j} hj => by
    have hbay := hbest j (inBest_iff.mp hj).1 (inBest_iff.mp hj).2
    rw [freePlaces_eq, freePlaces_eq] at hbay
    omega
  have hbefore : ∀ j ∈ a.filter (inBest s m c), s.freeCount j < s.freeCount k := fun j hj => by
    have hlower := hbelow j (List.mem_of_mem_filter hj)
    have := hfree (List.mem_filter.mp hj).2
    omega
  have hafter : ∀ j ∈ b.filter (inBest s m c), s.freeCount j ≤ s.freeCount k := fun j hj => by
    have := hfree (List.mem_filter.mp hj).2
    omega
  rw [entryChoice_best_eq, hall, List.filter_append, List.filter_cons_of_pos (inBest_iff.mpr ⟨hm, hk⟩), List.foldl_append,
    List.foldl_cons, betterBay_of_more (foldl_betterBay_below (best := none) hbefore nofun), foldl_betterBay_keeps hafter]

theorem entryChoice_none {s : State} {e : RouteEntry} {c : Cls} (h : ∀ k, permitted e k → ¬ admitted s k c) :
    s.entryChoice e c = none := by
  cases e with
  | pass => rfl
  | land p a =>
    have hp := admitsClass_eq_false (h p (.inl rfl))
    cases a with
    | none => simp [State.entryChoice, hp]
    | some k => simp [State.entryChoice, hp, admitsClass_eq_false (h k (.inr rfl))]
  | best m =>
    have hnone : Ix.all.filter (inBest s m c) = [] := List.filter_eq_nil_iff.mpr fun k _ hk =>
      h k (inBest_iff.mp hk).1 (inBest_iff.mp hk).2
    rw [entryChoice_best_eq, hnone, List.foldl_nil]

/-! ### The decision (R67 to R71) -/

/-- LAND at the bay chosen, or PASS by overflow. -/
def landOrOverflow : Option Ix → RouteOutcome
  | some k => ⟨.land k, false, false⟩
  | none => ⟨.pass, true, false⟩

theorem routeChoice_noRoute {s : State} {i : Ident} (h : i.dest = 0) : s.routeChoice i = ⟨.pass, false, true⟩ := if_pos h

theorem routeChoice_pass {s : State} {i : Ident} (hdest : i.dest ≠ 0)
    (h : s.routes.active.getD i.dest.toNat .pass = .pass) : s.routeChoice i = ⟨.pass, false, false⟩ := by
  rw [State.routeChoice, if_neg hdest, h]

theorem routeChoice_entry {s : State} {i : Ident} {e : RouteEntry} (hdest : i.dest ≠ 0)
    (he : s.routes.active.getD i.dest.toNat .pass = e) (hpass : e ≠ .pass) :
    s.routeChoice i = landOrOverflow ((s.affinity e i).or (s.entryChoice e i.cls)) := by
  rw [State.routeChoice, if_neg hdest, he]
  cases haffinity : s.affinity e i with
  | some k => cases e <;> simp_all [landOrOverflow]
  | none => cases hchoice : s.entryChoice e i.cls <;> cases e <;> simp_all [landOrOverflow]

/-- Without an affine bay the entry itself decides. -/
theorem routeChoice_of_no_affinity {s : State} {i : Ident} {e : RouteEntry} (hdest : i.dest ≠ 0)
    (he : s.routes.active.getD i.dest.toNat .pass = e) (hpass : e ≠ .pass) (hnone : ∀ k, ¬ affine s e i k) :
    s.routeChoice i = landOrOverflow (s.entryChoice e i.cls) := by
  rw [routeChoice_entry hdest he hpass, affinity_of_none hnone, Option.none_or]

theorem ne_pass_of_permitted {e : RouteEntry} {k : Ix} (h : permitted e k) : e ≠ .pass := by
  rintro rfl; exact h

/-- Settles O35: each test of R67 to R71 in its order, and the reservation, report or event that the outcome leaves. -/
theorem routeDecisionsFollowTheTable : Obligations.RouteDecisionsFollowTheTable := by
  unfold Obligations.RouteDecisionsFollowTheTable
  refine ⟨admitsClass_iff, fun s i => ?_, fun s lead i noRead stray => ?_⟩
  · intro e
    have he : s.routes.active.getD i.dest.toNat .pass = e := rfl
    refine ⟨routeChoice_noRoute, routeChoice_pass, fun k hdest hk hlow => ?_, fun hdest hnone => ⟨?_, ?_, ?_, ?_⟩⟩
    · rw [routeChoice_entry hdest he (ne_pass_of_permitted hk.1), affinity_of_lowest hk hlow]; rfl
    · intro p a hland hp
      rw [routeChoice_of_no_affinity hdest he (by rw [hland]; exact nofun) hnone, hland, entryChoice_primary hp]; rfl
    · intro p a hland hp ha
      rw [routeChoice_of_no_affinity hdest he (by rw [hland]; exact nofun) hnone, hland, entryChoice_alternate hp ha]; rfl
    · intro m k hbest hm hk hgreatest
      rw [routeChoice_of_no_affinity hdest he (by rw [hbest]; exact nofun) hnone, hbest, entryChoice_best hm hk hgreatest]; rfl
    · intro hpass hfull
      rw [routeChoice_of_no_affinity hdest he hpass hnone, entryChoice_none hfull]; rfl
  · intro o t x
    rw [← Belt.routeEffects_eq]
    rfl

end Sys2Proof.Routes
end

section
/-! The route table: entries, ROUTE WRITE and ROUTE COMMIT (R61 to R64, R172). -/

namespace Sys2Proof.Routes

open Sys2Proof.Machine Sys2Proof.Claims

/-! ### The two bytes of an entry (R62, R172) -/

theorem routeSound_land_iff {p : Ix} {a : Option Ix} : routeSound (.land p a) ↔ a ≠ some p := by
  simp [routeSound]

theorem routeSound_best_iff {m : Tri Bool} : routeSound (.best m) ↔ m ≠ .const false := by
  simp [routeSound]

theorem routeWire_eq_pair (e : RouteEntry) : ∃ x y, routeWire e = [x, y] := by
  cases e <;> exact ⟨_, _, rfl⟩

theorem ofNat?_eq_some {n : Nat} {k : Ix} (h : Ix.ofNat? n = some k) : n = k.toNat := by
  unfold Ix.ofNat? at h
  split at h <;> cases h <;> rfl

theorem decodeAlternate_eq_some {n : Nat} {a : Option Ix} (h : decodeAlternate n = some a) : n = a.elim 15 Ix.toNat := by
  unfold decodeAlternate at h
  split at h
  · next hnone => cases h; exact hnone
  · obtain ⟨k, hk, rfl⟩ := Option.map_eq_some_iff.mp h
    exact ofNat?_eq_some hk

/-- A byte is the second byte of a LAND entry where its nibbles name the bays. -/
theorem eq_landByte {y : Byte} {p : Ix} {a : Option Ix} (hp : y.toNat % 16 = p.toNat) (ha : y.toNat / 16 = a.elim 15 Ix.toNat) :
    y = BitVec.ofNat 4 (a.elim 15 Ix.toNat) ++ BitVec.ofNat 4 p.toNat := by
  have hnibbles : ∀ y : Byte, BitVec.ofNat 4 (y.toNat / 16) ++ BitVec.ofNat 4 (y.toNat % 16) = y := by decide +kernel
  rw [← hp, ← ha, hnibbles]

theorem decodeRoute_land {x y : Byte} {e : RouteEntry} (hx : x.toNat = 1) (h : decodeRoute x y = some e) :
    ∃ p a, e = .land p a ∧ a ≠ some p ∧ y = BitVec.ofNat 4 (a.elim 15 Ix.toNat) ++ BitVec.ofNat 4 p.toNat := by
  unfold decodeRoute at h
  rw [hx] at h
  obtain ⟨p, hp, h⟩ := Option.bind_eq_some_iff.mp h
  obtain ⟨a, ha, h⟩ := Option.bind_eq_some_iff.mp h
  split at h
  · cases h
  · next hne => cases h; exact ⟨p, a, rfl, hne, eq_landByte (ofNat?_eq_some hp) (decodeAlternate_eq_some ha)⟩

theorem decodeRoute_best {x y : Byte} {e : RouteEntry} (hx : x.toNat = 2) (h : decodeRoute x y = some e) :
    ∃ m, e = .best m ∧ m ≠ .const false ∧ y = bits8 false false false false false m.x2 m.x1 m.x0 := by
  have hmask : ∀ y : Byte, ¬ (y.toNat = 0 ∨ 8 ≤ y.toNat) →
      Tri.mk (y.getLsbD 0) (y.getLsbD 1) (y.getLsbD 2) ≠ .const false ∧
        y = bits8 false false false false false (y.getLsbD 2) (y.getLsbD 1) (y.getLsbD 0) := by decide +kernel
  unfold decodeRoute at h
  rw [hx] at h
  simp only [] at h
  split at h
  · cases h
  · next hy => cases h; exact ⟨_, rfl, hmask y hy⟩

/-- What is read from two bytes is well formed, and is PASS or has these bytes. -/
theorem decodeRoute_sound {x y : Byte} {e : RouteEntry} (h : decodeRoute x y = some e) :
    routeSound e ∧ (e = .pass ∨ routeWire e = [x, y]) ∧ (x.toNat = 0 ↔ e = .pass) := by
  rcases hx : x.toNat with _ | _ | _ | n
  · have hpass : e = .pass := by
      unfold decodeRoute at h
      rw [hx] at h
      exact (Option.some.inj h).symm
    subst hpass
    exact ⟨⟨nofun, nofun⟩, .inl rfl, by simp⟩
  · have hkind : x = 0x01 := BitVec.eq_of_toNat_eq hx
    obtain ⟨p, a, rfl, hne, rfl⟩ := decodeRoute_land hx h
    exact ⟨routeSound_land_iff.mpr hne, .inr (by rw [hkind]; rfl), by simp⟩
  · have hkind : x = 0x02 := BitVec.eq_of_toNat_eq hx
    obtain ⟨m, rfl, hne, rfl⟩ := decodeRoute_best hx h
    exact ⟨routeSound_best_iff.mpr hne, .inr (by rw [hkind]; rfl), by simp⟩
  · unfold decodeRoute at h
    rw [hx] at h
    cases h

theorem decodeRoute_routeWire {e : RouteEntry} (hsound : routeSound e) {x y : Byte} (h : routeWire e = [x, y]) :
    decodeRoute x y = some e := by
  cases e with
  | pass => cases h; rfl
  | land p a =>
    cases h
    have hne := routeSound_land_iff.mp hsound
    rcases a with _ | a
    · cases p <;> decide
    · revert hne
      cases p <;> cases a <;> decide
  | best m =>
    cases h
    have hne := routeSound_best_iff.mp hsound
    have hmasks : ∀ a b c : Bool, Tri.mk a b c ≠ .const false →
        decodeRoute 0x02 (bits8 false false false false false c b a) = some (.best ⟨a, b, c⟩) := by decide
    exact hmasks m.x0 m.x1 m.x2 hne

/-! ### The entries of a run -/

theorem getElem?_pairsOf {es : List Byte} {j : Nat} {x y : Byte} :
    (pairsOf es)[j]? = some (x, y) ↔ es[2 * j]? = some x ∧ es[2 * j + 1]? = some y := by
  induction es using pairsOf.induct generalizing j with
  | case1 a b rest ih =>
    cases j with
    | zero => simp [pairsOf]
    | succ j => simpa [pairsOf, Nat.mul_succ] using ih
  | case2 l hl =>
    rcases l with _ | ⟨a, _ | ⟨b, rest⟩⟩
    · simp [pairsOf]
    · simp [pairsOf]
    · exact absurd rfl (hl a b rest)

theorem decodeRouteAt_eq_some_iff {n : Nat} {b : Byte × Byte} {e : RouteEntry} :
    decodeRouteAt n b = some e ↔ decodeRoute b.1 b.2 = some e ∧ (n = 0 → e = .pass) := by
  unfold decodeRouteAt
  cases decodeRoute b.1 b.2 with
  | none => simp
  | some d =>
    by_cases hd : n = 0 ∧ d ≠ .pass
    · simp only [if_pos hd, reduceCtorEq, Option.some.injEq, false_iff]
      rintro ⟨rfl, hpass⟩
      exact hd.2 (hpass hd.1)
    · simp only [if_neg hd, Option.some.injEq]
      refine ⟨?_, And.left⟩
      rintro rfl
      exact ⟨rfl, fun hn => not_not.mp fun hne => hd ⟨hn, hne⟩⟩

/-- Entry j of a run from destination code n on is there and well formed. -/
def FitsAt (n : Nat) (bs : List (Byte × Byte)) (j : Nat) : Prop := ∃ b e, bs[j]? = some b ∧ decodeRouteAt (n + j) b = some e

theorem fitsAt_pairsOf_iff {n : Nat} {es : List Byte} {j : Nat} : FitsAt n (pairsOf es) j ↔
    ∃ x y e, es[2 * j]? = some x ∧ es[2 * j + 1]? = some y ∧ decodeRoute x y = some e ∧ (n + j = 0 → e = .pass) := by
  simp only [FitsAt, Prod.exists, getElem?_pairsOf, decodeRouteAt_eq_some_iff, and_assoc, exists_and_left]

theorem fitsAt_succ {n : Nat} {b : Byte × Byte} {bs : List (Byte × Byte)} {j : Nat} :
    FitsAt n (b :: bs) (j + 1) ↔ FitsAt (n + 1) bs j := by
  simp only [FitsAt, List.getElem?_cons_succ, Nat.add_right_comm n 1 j, Nat.add_assoc]

theorem fitsAt_zero {n : Nat} {b : Byte × Byte} {bs : List (Byte × Byte)} :
    FitsAt n (b :: bs) 0 ↔ ∃ e, decodeRouteAt n b = some e := by
  simp [FitsAt]

/-- A run of well-formed entries is decoded entry by entry. -/
theorem decodeRoutes_of_fits {n : Nat} {bs : List (Byte × Byte)} (h : ∀ j, j < bs.length → FitsAt n bs j) :
    ∃ es, decodeRoutes n bs = .ok es ∧ es.length = bs.length ∧
      ∀ j b, bs[j]? = some b → es[j]? = decodeRouteAt (n + j) b := by
  induction bs generalizing n with
  | nil => exact ⟨[], rfl, rfl, by simp⟩
  | cons b bs ih =>
    obtain ⟨e, he⟩ := fitsAt_zero.mp (h 0 (Nat.succ_pos _))
    obtain ⟨es, hes, hlength, hentries⟩ := ih fun j hj => fitsAt_succ.mp (h (j + 1) (Nat.succ_lt_succ hj))
    refine ⟨e :: es, by simp only [decodeRoutes, he, hes], congrArg (· + 1) hlength, fun j c hc => ?_⟩
    cases j with
    | zero =>
      cases Option.some.inj hc
      exact he.symm
    | succ j =>
      rw [List.getElem?_cons_succ, hentries j c hc, Nat.add_right_comm n 1 j, Nat.add_assoc]

/-- Decoding stops at the first entry that is not well formed. -/
theorem decodeRoutes_of_not_fits {n : Nat} {bs : List (Byte × Byte)} {j : Nat} (hj : j < bs.length)
    (hbefore : ∀ i, i < j → FitsAt n bs i) (hbad : ¬ FitsAt n bs j) : decodeRoutes n bs = .error (n + j) := by
  induction bs generalizing n j with
  | nil => cases hj
  | cons b bs ih =>
    cases j with
    | zero =>
      have hnone : decodeRouteAt n b = none :=
        Option.eq_none_iff_forall_ne_some.mpr fun e he => hbad (fitsAt_zero.mpr ⟨e, he⟩)
      simp only [decodeRoutes, hnone, Nat.add_zero]
    | succ j =>
      obtain ⟨e, he⟩ := fitsAt_zero.mp (hbefore 0 (Nat.succ_pos _))
      have hrest := ih (Nat.lt_of_succ_lt_succ hj) (fun i hi => fitsAt_succ.mp (hbefore (i + 1) (Nat.succ_lt_succ hi)))
        (mt fitsAt_succ.mpr hbad)
      simp only [decodeRoutes, he, hrest, Nat.add_right_comm n 1 j, Nat.add_assoc]

/-! ### The standby bank -/

section Replace

variable {first : Nat} {es bank : List RouteEntry} (hfits : first + es.length ≤ bank.length)
include hfits

theorem length_replaceFrom : (replaceFrom first es bank).length = bank.length := by
  simp only [replaceFrom, List.length_append, List.length_take, List.length_drop]
  omega

theorem getElem?_replaceFrom_inside {j : Nat} (hj : j < es.length) : (replaceFrom first es bank)[first + j]? = es[j]? := by
  have htake : (bank.take first).length = first := by rw [List.length_take]; omega
  rw [replaceFrom, List.append_assoc, List.getElem?_append_right (by omega), htake, Nat.add_sub_cancel_left,
    List.getElem?_append_left hj]

theorem getElem?_replaceFrom_outside {n : Nat} (hn : n < first ∨ first + es.length ≤ n) :
    (replaceFrom first es bank)[n]? = bank[n]? := by
  have htake : (bank.take first).length = first := by rw [List.length_take]; omega
  rcases hn with hn | hn
  · rw [replaceFrom, List.append_assoc, List.getElem?_append_left (by omega), List.getElem?_take_of_lt hn]
  · rw [replaceFrom, List.getElem?_append_right (by rw [List.length_append]; omega), List.length_append, htake,
      List.getElem?_drop, Nat.add_sub_cancel' hn]

end Replace

/-! ### ROUTE WRITE -/

/-- LEN fits the count of entries, and the count is one of R63. -/
def RunLength (count : Byte) (es : List Byte) : Prop := es.length = 2 * count.toNat ∧ 1 ≤ count.toNat ∧ count.toNat ≤ 28

theorem reqRouteWrite_of_length {p : List Byte} (s : State)
    (h : ∀ first count es, p = first :: count :: es → ¬ RunLength count es) :
    reqRouteWrite p s = (s, [0x02, byte p.length, 0xFF]) := by
  unfold reqRouteWrite
  split
  · next first count es =>
    refine if_pos ?_
    have hrun := h first count es rfl
    simp only [RunLength] at hrun
    simp only [Config.routeRun]
    omega
  · rfl

section Run

variable {first count : Byte} {es : List Byte} {s : State} (hrun : RunLength count es)
include hrun

theorem length_pairsOf_run : (pairsOf es).length = count.toNat := by
  obtain ⟨hlength, _, _⟩ := hrun
  rw [Totes.length_pairsOf, hlength]
  omega

theorem runLength_tests : ¬ (es.length ≠ 2 * count.toNat ∨ count.toNat = 0 ∨ Config.routeRun < count.toNat) := by
  obtain ⟨hlength, hone, hmost⟩ := hrun
  simp only [Config.routeRun]
  omega

theorem reqRouteWrite_of_past (h : 129 ≤ first.toNat + count.toNat) :
    reqRouteWrite (first :: count :: es) s = (s, [0x0A, first, 0xFF]) := by
  unfold reqRouteWrite
  simp only [if_neg (runLength_tests hrun)]
  exact if_pos h

variable (hrange : first.toNat + count.toNat ≤ 128)
include hrange

theorem reqRouteWrite_of_error {n : Nat} (h : decodeRoutes first.toNat (pairsOf es) = .error n) :
    reqRouteWrite (first :: count :: es) s = (s, [0x04, byte n, 0xFF]) := by
  unfold reqRouteWrite
  simp only [if_neg (runLength_tests hrun), if_neg (Nat.not_lt.mpr hrange : ¬ Config.routeEntries < _), h]
  rfl

theorem reqRouteWrite_of_ok {rs : List RouteEntry} (h : decodeRoutes first.toNat (pairsOf es) = .ok rs) :
    reqRouteWrite (first :: count :: es) s =
      ({ s with routes := { s.routes with standby := replaceFrom first.toNat rs s.routes.standby } },
        [0x00, s.routes.generation]) := by
  unfold reqRouteWrite
  simp only [if_neg (runLength_tests hrun), if_neg (Nat.not_lt.mpr hrange : ¬ Config.routeEntries < _), h]
  rfl

/-- A run of well-formed entries is written together, and nothing beside it (R63). -/
theorem reqRouteWrite_of_fits (hfits : ∀ j, j < count.toNat → FitsAt first.toNat (pairsOf es) j)
    (hbank : s.routes.standby.length = 128) :
    ∃ bank, reqRouteWrite (first :: count :: es) s =
        ({ s with routes := { s.routes with standby := bank } }, [0x00, s.routes.generation]) ∧
      bank.length = 128 ∧
      (∀ j x y, j < count.toNat → es[2 * j]? = some x → es[2 * j + 1]? = some y →
        bank[first.toNat + j]? = decodeRoute x y) ∧
      ∀ n, n < first.toNat ∨ first.toNat + count.toNat ≤ n → bank[n]? = s.routes.standby[n]? := by
  have hpairs := length_pairsOf_run hrun
  obtain ⟨rs, hdecode, hlength, hentries⟩ := decodeRoutes_of_fits (hpairs.symm ▸ hfits)
  rw [hpairs] at hlength
  have hroom : first.toNat + rs.length ≤ s.routes.standby.length := by omega
  refine ⟨_, reqRouteWrite_of_ok hrun hrange hdecode, (length_replaceFrom hroom).trans hbank, fun j x y hj hx hy => ?_,
    fun n hn => getElem?_replaceFrom_outside hroom (hlength ▸ hn)⟩
  obtain ⟨x', y', e, hx', hy', he, hpass⟩ := fitsAt_pairsOf_iff.mp (hfits j hj)
  cases hx.symm.trans hx'
  cases hy.symm.trans hy'
  rw [getElem?_replaceFrom_inside hroom (hlength ▸ hj), hentries j (x, y) (getElem?_pairsOf.mpr ⟨hx, hy⟩), he]
  exact decodeRouteAt_eq_some_iff.mpr ⟨he, hpass⟩

end Run

/-- A delivered request is answered with what its handler returns, in the state that it leaves. -/
theorem answer_of_handler {q : Request} {s t : State} {op : Handler} {r : List Byte} (kind : Byte) (hq : delivered q s)
    (h : op q.payload (s.frameArrives q.port) = (t, r)) : .next (s.requestArrives op kind q).finish = answer kind q r t := by
  rw [Belt.requestArrives_of_delivered hq, h]
  rfl

/-- Settles O19: an entry's bytes are read back from it, and each case of ROUTE WRITE is its handler's, delivered. -/
theorem routeTableIsWrittenAndCommitted : Obligations.RouteTableIsWrittenAndCommitted := by
  unfold Obligations.RouteTableIsWrittenAndCommitted
  refine ⟨fun e => ⟨Totes.encodeRoute_eq e, fun hsound => ?_⟩, fun x y e => decodeRoute_sound, fun y => rfl,
    fun q s hq => ?_⟩
  · obtain ⟨x, y, hwire⟩ := routeWire_eq_pair e
    exact ⟨x, y, hwire, decodeRoute_routeWire hsound hwire⟩
  refine ⟨fun first count es hp hlength hone hmost hrange hfits hbank => ?_, fun hnone => ?_,
    fun first count es hp hlength hone hmost hpast => ?_, fun first count es j hp hlength hone hmost hrange hj hbefore hbad => ?_,
    fun hp => ?_⟩
  · obtain ⟨bank, hwrite, hentries⟩ := reqRouteWrite_of_fits ⟨hlength, hone, hmost⟩ hrange
      (fun j hj => fitsAt_pairsOf_iff.mpr (hfits j hj)) hbank
    exact ⟨bank, answer_of_handler 0x13 hq (hp ▸ hwrite), hentries⟩
  · exact answer_of_handler 0x13 hq (reqRouteWrite_of_length _ fun first count es hp ⟨hlength, hone, hmost⟩ =>
      hnone first count es hp hlength hone hmost)
  · exact answer_of_handler 0x13 hq (hp ▸ reqRouteWrite_of_past ⟨hlength, hone, hmost⟩ hpast)
  · have hrun : RunLength count es := ⟨hlength, hone, hmost⟩
    have hdecode := decodeRoutes_of_not_fits (hj.trans_eq (length_pairsOf_run hrun).symm)
      (fun i hi => fitsAt_pairsOf_iff.mpr (hbefore i hi)) (mt fitsAt_pairsOf_iff.mp hbad)
    exact answer_of_handler 0x13 hq (hp ▸ reqRouteWrite_of_error hrun hrange hdecode)
  · exact answer_of_handler 0x14 hq (by rw [hp]; rfl)

end Sys2Proof.Routes
end

section
/-! The tests of ARMED and CONFIRMING records, a lane's totes taken from the front, and the clear edges of a bay's eyes
(R81 to R86, R91 to R97, R126 to R128). -/

namespace Sys2Proof.Lanes

open Sys2Proof.Machine Sys2Proof.Claims

/-! ### ARMED and CONFIRMING records (R81 to R86) -/

section Armed

variable {s : State} {t : Tote} {len : Nat} {k : Ix} {base late target : Pos} (h : t.track = .armed len k base late target)

include h

theorem testDivert_of_armed : s.testDivert t = s.testArmed t := by
  simp only [State.testDivert, h]

theorem testArmed_late (hlate : reached s.pos.P late = true) :
    s.testArmed t = (t.missed len, missed 1 k t.ident s) := by
  simp only [State.testArmed, h, hlate, if_true]; rfl

variable (hlate : reached s.pos.P late = false)

include hlate

theorem testArmed_waits (htarget : reached s.pos.P target = false) : s.testArmed t = (t, s) := by
  simp [State.testArmed, h, hlate, htarget]

variable (htarget : reached s.pos.P target = true)

include htarget

theorem testArmed_halted (hhalt : s.node.state = .halt) : s.testArmed t = (t.missed len, missed 2 k t.ident s) := by
  simp only [State.testArmed, h, hlate, htarget, hhalt, Bool.false_eq_true, if_false, if_true]; rfl

theorem testArmed_blocked (hrun : s.node.state = .run) (hblocked : (s.bays.get k).blocked = true) :
    s.testArmed t = (t.missed len, missed 4 k t.ident s) := by
  simp only [State.testArmed, h, hlate, htarget, hrun, hblocked, Bool.false_eq_true, if_false, if_true]; rfl

theorem testArmed_fires (hrun : s.node.state = .run) (hfree : (s.bays.get k).blocked = false) :
    s.testArmed t =
      ({ t with track := .confirming len k base s.pos.P (posAdd s.pos.P (s.params.bay.get k).confirm) }, s.firePaddle k) := by
  simp only [State.testArmed, h, hlate, htarget, hrun, hfree, Bool.false_eq_true, if_false, if_true]

end Armed

section Confirming

variable {s : State} {t : Tote} {len : Nat} {k : Ix} {base fired windowEnd : Pos}
  (h : t.track = .confirming len k base fired windowEnd)

include h

theorem testDivert_window (hend : reached s.pos.P windowEnd = true) :
    s.testDivert t = (t.missed len, missed 3 k t.ident s) := by
  simp only [State.testDivert, h, hend, if_true]; rfl

theorem testDivert_confirms (hend : reached s.pos.P windowEnd = false) : s.testDivert t = (t, s) := by
  simp [State.testDivert, h, hend]

end Confirming

/-- A record that is still ENTERING or decided PASS has no test at the paddles. -/
theorem testDivert_of_undecided {t : Tote} (h : t.track.code ≤ 1) (s : State) : s.testDivert t = (t, s) := by
  unfold State.testDivert State.testArmed
  cases ht : t.track with
  | entering | riding => rfl
  | armed | confirming => rw [ht] at h; simp [Track.code] at h

/-- Settles O36: one lemma for each outcome of the tests, in their order. -/
theorem armedRecordsFireOrMiss : Obligations.ArmedRecordsFireOrMiss := by
  unfold Obligations.ArmedRecordsFireOrMiss
  intro s t
  refine ⟨fun len k base late target h => ?_, fun len k base fired windowEnd h => ?_, fun h => testDivert_of_undecided h s⟩
  · rw [testDivert_of_armed h]
    exact ⟨testArmed_late h, testArmed_waits h, fun hlate htarget => ⟨testArmed_halted h hlate htarget,
      testArmed_blocked h hlate htarget, testArmed_fires h hlate htarget⟩⟩
  · exact ⟨testDivert_window h, testDivert_confirms h⟩

/-! ### Totes taken from a lane (R94, R97, R126 to R128) -/

/-- n totes have left bay b from the front: beside the lane only the ready counts and the lamp may have changed. -/
def TakenFrom (n : Nat) (b b' : Bay) : Prop :=
  b' = { b with
    landing := b.landing.drop n
    ready := b'.ready
    rushReady := b'.rushReady
    lamp := b'.lamp
    lampTimer := b'.lampTimer }

theorem TakenFrom.trans {m n : Nat} {a b c : Bay} (h : TakenFrom m a b) (k : TakenFrom n b c) : TakenFrom (m + n) a c := by
  unfold TakenFrom at *
  rw [k, h]
  simp only [List.drop_drop]

theorem takenFrom_fallToDark (b : Bay) : TakenFrom 0 b b.fallToDark := by
  unfold TakenFrom Bay.fallToDark
  split <;> rfl

theorem takenFrom_orderGone (c : Cls) (b : Bay) : TakenFrom 0 b (b.orderGone c) := by
  have hcounted : TakenFrom 0 b { b with ready := b.ready - 1, rushReady := b.rushReady - (if c.isRush then 1 else 0) } := rfl
  exact hcounted.trans (takenFrom_fallToDark _)

/-- The Assembly Unit calls off at most one ready order at the bay a tote is taken from. -/
theorem assemblyTaken_bays (k : Ix) (r : LandingRec) (s : State) : (s.assemblyTaken k r).bays = s.bays ∨
    ∃ c, (s.assemblyTaken k r).bays = s.bays.modify k (Bay.orderGone c) := by
  unfold State.assemblyTaken
  split
  · exact .inr ⟨r.cls, by rw [State.singleTaken, State.report_bays]; rfl⟩
  · split
    · next e _ =>
      have hcounted : (s.memberTaken k r e).bays = (Totes.memberCounted k e s).bays := by
        rw [Totes.memberTaken_eq]
        split
        · rw [State.report_bays]
        · rfl
      rw [hcounted, Totes.memberCounted]
      split
      · exact .inr ⟨e.cls, rfl⟩
      · exact .inl rfl
    · exact .inl rfl

theorem takenFrom_assemblyTaken (k : Ix) (r : LandingRec) (s : State) :
    TakenFrom 0 (s.bays.get k) ((s.assemblyTaken k r).bays.get k) ∧
      ∀ j, j ≠ k → (s.assemblyTaken k r).bays.get j = s.bays.get j := by
  rcases assemblyTaken_bays k r s with h | ⟨c, h⟩ <;> rw [h]
  · exact ⟨rfl, fun _ _ => rfl⟩
  · exact ⟨Tri.get_modify_self .. ▸ takenFrom_orderGone c _, fun j hj => (Tri.get_modify ..).trans (if_neg hj)⟩

/-- The front record off its lane, and TAKEN where landings are reported. -/
def frontTaken (k : Ix) (detail : Nat) (r : LandingRec) (rest : List LandingRec) (s : State) : State :=
  reportIf .taken detail r.tag r.order (s.modBay k fun b => { b with landing := rest })

theorem frontTaken_bays (k : Ix) (detail : Nat) (r : LandingRec) (rest : List LandingRec) (s : State) :
    (frontTaken k detail r rest s).bays = s.bays.modify k fun b => { b with landing := rest } := by
  unfold frontTaken reportIf
  split
  · rw [State.report_bays]; rfl
  · rfl

theorem takeFront_of_empty {k : Ix} {s : State} (h : (s.bays.get k).landing = []) (detail : Nat) :
    s.takeFront k detail = s := by
  rw [State.takeFront, h]

theorem takeFront_of_cons {k : Ix} {s : State} {r : LandingRec} {rest : List LandingRec}
    (h : (s.bays.get k).landing = r :: rest) (detail : Nat) : s.takeFront k detail =
      if r.unexpected = true then frontTaken k detail r rest s else (frontTaken k detail r rest s).assemblyTaken k r := by
  rw [State.takeFront, h]; rfl

theorem takenFrom_takeFront (k : Ix) (detail : Nat) (s : State) :
    TakenFrom 1 (s.bays.get k) ((s.takeFront k detail).bays.get k) ∧
      ∀ j, j ≠ k → (s.takeFront k detail).bays.get j = s.bays.get j := by
  cases h : (s.bays.get k).landing with
  | nil =>
    rw [takeFront_of_empty h]
    exact ⟨by rw [TakenFrom, h]; exact congrArg (fun l => { s.bays.get k with landing := l }) h, fun _ _ => rfl⟩
  | cons r rest =>
    have hfront : TakenFrom 1 (s.bays.get k) ((frontTaken k detail r rest s).bays.get k) := by
      rw [frontTaken_bays, Tri.get_modify_self, TakenFrom, h]; rfl
    have hothers : ∀ j, j ≠ k → (frontTaken k detail r rest s).bays.get j = s.bays.get j := fun j hj => by
      rw [frontTaken_bays, Tri.get_modify, if_neg hj]
    obtain ⟨hassembly, hrest⟩ := takenFrom_assemblyTaken k r (frontTaken k detail r rest s)
    rw [takeFront_of_cons h]
    split
    · exact ⟨hfront, hothers⟩
    · exact ⟨hfront.trans hassembly, fun j hj => (hrest j hj).trans (hothers j hj)⟩

theorem takenFrom_takeMany (k : Ix) (detail n : Nat) (s : State) :
    TakenFrom n (s.bays.get k) ((State.takeMany k detail n s).bays.get k) ∧
      ∀ j, j ≠ k → (State.takeMany k detail n s).bays.get j = s.bays.get j := by
  induction n generalizing s with
  | zero => exact ⟨rfl, fun _ _ => rfl⟩
  | succ n ih =>
    obtain ⟨hfront, hothers⟩ := takenFrom_takeFront k detail s
    obtain ⟨hmany, hrest⟩ := ih (s.takeFront k detail)
    have hboth := hfront.trans hmany
    rw [Nat.add_comm] at hboth
    exact ⟨hboth, fun j hj => (hrest j hj).trans (hothers j hj)⟩

/-! ### BAY CLEAR (R97, R128) -/

theorem takeFront_eq_removeFront (k : Ix) (s : State) : s.takeFront k (3 + k.toNat) = removeFront k s := by
  cases h : (s.bays.get k).landing with
  | nil => rw [takeFront_of_empty h, removeFront, h]
  | cons r rest => rw [takeFront_of_cons h, removeFront, h]; rfl

theorem takeMany_eq_removeRepeatedly (k : Ix) (n : Nat) (s : State) :
    State.takeMany k (3 + k.toNat) n s = removeRepeatedly k n s := by
  induction n generalizing s with
  | zero => rfl
  | succ n ih => rw [State.takeMany, takeFront_eq_removeFront, ih]; rfl

theorem ofNat?_of_three_le {n : Nat} (h : 3 ≤ n) : Ix.ofNat? n = none := by
  match n, h with
  | n + 3, _ => rfl

theorem exists_toNat_eq {n : Nat} (h : n ≤ 2) : ∃ k : Ix, n = k.toNat := by
  match n, h with
  | 0, _ => exact ⟨.i0, rfl⟩
  | 1, _ => exact ⟨.i1, rfl⟩
  | 2, _ => exact ⟨.i2, rfl⟩

theorem reqBayClear_of_bay {b n : Byte} {k : Ix} (hb : b.toNat = k.toNat) (s : State) : reqBayClear [b, n] s =
    if 8 < n.toNat then (s, [0x04, 0x01, 0xFF])
    else
      (removeRepeatedly k (clearCount n.toNat (s.bays.get k).landing.length) s,
        [0x00, byte (clearCount n.toNat (s.bays.get k).landing.length)]) := by
  unfold reqBayClear
  simp only [hb, Ix.ofNat?_toNat, takeMany_eq_removeRepeatedly]
  rfl

theorem reqBayClear_of_no_bay {b : Byte} (n : Byte) (h : 3 ≤ b.toNat) (s : State) :
    reqBayClear [b, n] s = (s, [0x0A, b, 0xFF]) := by
  unfold reqBayClear
  simp only [ofNat?_of_three_le h]
  rfl

/-- Settles O21: BAY CLEAR is the repeated removal of its rule, and a removal changes of its bay no more than the lane, the
ready counts and the lamp. -/
theorem bayClearTakesRecordsFromTheFront : Obligations.BayClearTakesRecordsFromTheFront := by
  unfold Obligations.BayClearTakesRecordsFromTheFront
  intro q s hq s'
  refine ⟨fun b n k hp hb hn => ?_, fun b n hp hb => ?_, fun b n hp hb hn => ?_⟩
  · intro m
    have hmany := takeMany_eq_removeRepeatedly k m s'
    obtain ⟨htaken, hothers⟩ := takenFrom_takeMany k (3 + k.toNat) m s'
    have hframe := State.takeMany_frame k (3 + k.toNat) m s'
    rw [hmany] at htaken hothers hframe
    refine ⟨removeRepeatedly k m s', Routes.answer_of_handler 0x18 hq ?_, rfl, hframe, ?_, fun j => ?_, hothers⟩
    · rw [hp, reqBayClear_of_bay hb, if_neg (Nat.not_lt.mpr hn)]; rfl
    · rw [htaken]
    · by_cases hj : j = k
      · rw [hj, htaken]; exact ⟨rfl, rfl, rfl, rfl, rfl⟩
      · rw [hothers j hj]; exact ⟨rfl, rfl, rfl, rfl, rfl⟩
  · exact Routes.answer_of_handler 0x18 hq (by rw [hp, reqBayClear_of_no_bay n hb])
  · obtain ⟨k, hk⟩ := exists_toNat_eq hb
    exact Routes.answer_of_handler 0x18 hq (by rw [hp, reqBayClear_of_bay hk, if_pos (show 8 < n.toNat from hn)])

/-! ### Clear edges of a bay's eyes (R91, R92, R94, R96) -/

theorem frontCleared_of_empty {k : Ix} {s : State} (h : (s.bays.get k).landing = []) :
    s.frontCleared k = s.offer .takenUnknown none (some k.toNat) := by
  rw [State.frontCleared, h]

theorem frontCleared_of_cons {k : Ix} {s : State} {r : LandingRec} {rest : List LandingRec}
    (h : (s.bays.get k).landing = r :: rest) : s.frontCleared k = s.takeFront k k.toNat := by
  rw [State.frontCleared, h]

/-- Settles O38: each edge is its owner's act, which reads the bays as they stood before the edge was taken. -/
theorem laneEyesClearJamsAndTakeTotes : Obligations.LaneEyesClearJamsAndTakeTotes := by
  unfold Obligations.LaneEyesClearJamsAndTakeTotes
  intro s k e u
  refine ⟨fun h => ?_, fun h => ?_, fun h => Belt.exec_of_edgeTaken h⟩
  · rw [← Belt.edgeTaken_bays h]
    exact Belt.exec_of_edgeTaken h
  · have hexec : exec (.frontEyeClear k) s = .next (u.frontCleared k).finish := Belt.exec_of_edgeTaken h
    have hcounters : u.counters = s.counters := by rw [Belt.edgeTaken_frame h]
    rw [hexec, ← Belt.edgeTaken_bays h]
    refine ⟨fun hempty => ?_, fun r rest hfront => ?_⟩
    · rw [frontCleared_of_empty hempty, counted, ← hcounters]; rfl
    · rw [frontCleared_of_cons hfront, takeFront_of_cons hfront]; rfl

end Sys2Proof.Lanes
end

section
/-! What every step keeps, each halt having its cause. KeptByActs asks that a halt of any cause, NONE too, keeps the law; the law
that HALT goes with a cause (R152, R155) breaks there, though no command brings such a halt. -/

namespace Sys2Proof.Steps

open Sys2Proof.Machine Sys2Proof.Claims Sys2Proof.Belt

/-- t differs from s at most in the queue of commands, the clock, position and eyes, the filtered emergency-stop input, and what
receivers, transmit queues, Tag Port and counters hold. -/
def WiresOnly (s t : State) : Prop :=
  t = { s with
    time := t.time
    pos := t.pos
    eyes := t.eyes
    jamAt := t.jamAt
    tagPort := t.tagPort
    node := { s.node with estopActive := t.node.estopActive, estopCount := t.node.estopCount }
    lines := t.lines
    counters := t.counters
    pending := t.pending }

/-- The acts of which the commands and the sample period are made keep p. -/
structure KeptByCausedActs (p : State → Prop) : Prop where
  wires : ∀ {s t}, WiresOnly s t → p s → p t
  finish : Keeps p State.finish
  reset : Keeps p State.resetPart
  request : ∀ kind payload, Keeps p fun s => (handlerOf kind payload s).1
  notice : ∀ q i, Keeps p (State.takeNotice q i)
  sync : ∀ value, Keeps p (State.takeSync value)
  locked : ∀ g r, Keeps p (State.takeLocked g r)
  move : Keeps p State.positionChange
  halt : ∀ c, c ≠ .none → Keeps p fun s => (s.enterHalt c).reTest
  speed : Keeps p State.takeSample
  owner : ∀ i b e, Keeps p (ownerOf i b e)
  paddle : ∀ k, Keeps p (State.modBay k fun b => { b with paddle := none })
  gate : ∀ i, Keeps p (State.modSpur i fun x => { x with gateTimer := none })
  release : ∀ i, Keeps p fun s =>
    ((s.stickSpur i i.toNat).modSpur i fun x => { x with releaseTimer := none }).reTest
  chime : ∀ k, Keeps p (State.modBay k fun b => { b with chime := none })
  jam : ∀ k, Keeps p (State.chuteJammed k)
  lamp : ∀ k q, Keeps p (State.modBay k (Bay.lampStep q))
  refresh : Keeps p fun s => { s with credit := { s.credit.request 1 with refresh := some Config.creditRefreshMs } }
  tick : Keeps p State.tick

/-! ### Acts on the wires alone -/

theorem wiresOnly_frameArrives (q : Port) (s : State) : WiresOnly s (s.frameArrives q) := by
  rw [State.frameArrives_frame]; exact rfl

theorem wiresOnly_forward (q : Port) (f : Frame) (s : State) : WiresOnly s (s.forward q f) := by
  rw [State.forward_frame]; exact rfl

theorem wiresOnly_tagChar (c : TagChar) (s : State) : WiresOnly s (s.tagChar c) := by
  rw [tagChar_frame]; exact rfl

theorem wiresOnly_samplePeriod (s : State) : WiresOnly s s.samplePeriod := by
  rw [samplePeriod_frame]; exact rfl

theorem wiresOnly_edgeTaken {i : EyeId} {b : Bool} {s : State} {e : Edge} {u : State} (h : edgeTaken i b s e u) :
    WiresOnly s u := by
  rw [edgeTaken_frame h]; exact rfl

namespace KeptByCausedActs

variable {p : State → Prop} (h : KeptByCausedActs p) {s : State}

include h

/-! ### Requests and frames -/

theorem serve (kind : Byte) (q : Request) (hs : p s) : p (s.serve (handlerOf kind) kind q) := by
  unfold State.serve
  split
  · exact h.wires rfl hs
  · exact h.wires rfl (h.request kind q.payload s hs)

theorem broadcastRequest (kind : Byte) (q : Request) (hs : p s) : p (s.broadcastRequest (handlerOf kind) kind q) := by
  unfold State.broadcastRequest
  split
  · exact h.wires rfl hs
  · refine h.wires (wiresOnly_forward ..) ?_
    split
    · exact h.request kind q.payload s hs
    · exact hs

theorem requestArrives (kind : Byte) (q : Request) (hs : p s) : p (s.requestArrives (handlerOf kind) kind q) := by
  have ha := h.wires (wiresOnly_frameArrives q.port s) hs
  unfold State.requestArrives
  simp only []
  split
  · exact h.wires rfl ha
  · split
    · exact h.broadcastRequest kind q ha
    · exact h.serve kind q ha

theorem noticeFrameIn (payload : List Byte) (hs : p s) : p (s.noticeFrameIn payload) := by
  unfold State.noticeFrameIn
  split
  · exact h.notice _ _ s hs
  · exact h.wires rfl hs

theorem creditFrameIn (payload : List Byte) (hs : p s) : p (s.creditFrameIn payload) := by
  unfold State.creditFrameIn
  split
  · split
    · exact h.sync _ s hs
    · exact h.locked _ _ s hs
    · exact h.wires rfl hs
  · exact h.wires rfl hs

theorem deliver (q : Port) (f : Frame) (hs : p s) : p (s.deliver q f) := by
  have hdrop : ∀ r, p (s.offerDrop r) := fun _ => h.wires rfl hs
  have hforward : ∀ r, p (s.forward r f) := fun r => h.wires (wiresOnly_forward r f s) hs
  unfold State.deliver
  simp only []
  split
  · split
    · exact h.serve f.kind _ hs
    · exact hdrop q
  split
  · cases q with
    | U => exact hdrop .U
    | D => exact hforward .U
  split
  · cases q with
    | U =>
      simp only []
      split
      · exact h.noticeFrameIn f.payload hs
      · exact hdrop .U
    | D =>
      simp only []
      split
      · exact h.creditFrameIn f.payload hs
      · exact hdrop .D
  split
  · exact h.broadcastRequest f.kind _ hs
  · exact hforward q.other

theorem wholeFrame (q : Port) (f : Frame) (hs : p s) : p (s.wholeFrame q f) := by
  have ha := h.wires (wiresOnly_frameArrives q s) hs
  unfold State.wholeFrame
  simp only []
  split
  · exact h.wires rfl ha
  · exact h.deliver q f ha

theorem noticeArrives (payload : List Byte) (hs : p s) : p ((s.frameArrives .U).noticeArrives payload) := by
  have ha := h.wires (wiresOnly_frameArrives .U s) hs
  unfold State.noticeArrives
  split
  · exact h.wires rfl ha
  · exact h.noticeFrameIn payload ha

theorem lineChars (q : Port) (cs : List LineChar) (hs : p s) : p (cs.foldl (State.lineChar q) s) := by
  induction cs generalizing s with
  | nil => exact hs
  | cons c cs ih =>
    refine ih ?_
    have hrx : p (s.modPort q fun y => { y with rx := (rxChar (s.lines.get q).rx c).1 }) := h.wires rfl hs
    unfold State.lineChar
    simp only []
    split
    · exact hrx
    · exact h.wires rfl hrx
    · exact h.finish _ (h.deliver _ _ hrx)

theorem tagChars (cs : List TagChar) (hs : p s) : p (cs.foldl State.tagChar s) := by
  induction cs generalizing s with
  | nil => exact hs
  | cons c cs ih => exact ih (h.wires (wiresOnly_tagChar c s) hs)

/-! ### Encoder samples and the emergency stop, whose halts have their causes (R6, R153) -/

theorem encoderSample (now : Bool × Bool) (hs : p s) : p (s.encoderSample now) := by
  have hpair : p (withPair now s) := h.wires rfl hs
  have hmove : ∀ q, p ({ withPair now s with pos := q } : State).positionChange := fun q => h.move _ (h.wires rfl hpair)
  unfold State.encoderSample
  simp only []
  split
  · exact hpair
  · split
    · unfold State.forwardTransition
      split
      · exact hmove _
      · exact h.wires rfl hpair
    · unfold State.reverseTransition
      split
      · exact hmove _
      · exact h.wires rfl hpair
    · have hcounted : p (countedInvalid (withPair now s)) := h.wires rfl hpair
      refine (invalidTransition_eq (withPair now s)).symm ▸ ?_
      split
      · exact h.halt .encoder nofun _ hcounted
      · exact hcounted
    · exact hpair

theorem eStopAssertion (hs : p s) : GoesOn p (execEStopAssertion s) := by
  have hset : p { s with node := { s.node with estopActive := true, estopCount := 0 } } := h.wires rfl hs
  refine ⟨_, rfl, ?_⟩
  split
  · exact hs
  · split
    · exact h.finish _ (h.halt .eStop nofun _ hset)
    · exact h.finish _ hset

/-! ### The commands -/

theorem finished (hs : p s) : GoesOn p (.next s.finish) := ⟨_, rfl, h.finish s hs⟩

theorem requested (kind : Byte) (q : Request) (hs : p s) :
    GoesOn p (.next (s.requestArrives (handlerOf kind) kind q).finish) := h.finished (h.requestArrives kind q hs)

theorem onExpiry {act : State → State} (hact : Keeps p act) (timer : Timer) (hs : p s) : GoesOn p (s.onExpiry timer act) := by
  refine ⟨_, rfl, ?_⟩
  split
  · exact h.finish _ (hact s hs)
  · exact hs

theorem edge (i : EyeId) (b : Bool) (hs : p s) : GoesOn p (exec (edgeOf i b) s) := by
  by_cases hno : noEdge i b s
  · exact ⟨s, by rw [exec_edgeOf, edge_of_noEdge hno], hs⟩
  · obtain ⟨e, u, hu⟩ := exists_edgeTaken hno
    rw [exec_of_edgeTaken hu]
    exact h.finished (h.owner i b e u (h.wires (wiresOnly_edgeTaken hu) hs))

theorem ofFrameSent (q : Port) (hs : p s) : GoesOn p (execFrameSent q s) := by
  refine ⟨_, rfl, ?_⟩
  split
  · exact hs
  · split
    · exact h.reset s hs
    · exact h.finish _ (h.wires rfl hs)

theorem unknownKindRequest (kind : Byte) (q : Request) (hs : p s) : GoesOn p (execUnknownKindRequest kind q s) := by
  refine ⟨_, rfl, ?_⟩
  split
  · exact h.finish _ (h.requestArrives kind q hs)
  · exact h.finish _ (h.wires rfl (h.wires (wiresOnly_frameArrives q.port s) hs))

/-- A reset where it follows, and nothing where it does not. -/
theorem resetIf (c : Bool) (hs : p s) : GoesOn p (.next (if c then s.resetPart else s)) := by
  refine ⟨_, rfl, ?_⟩
  split
  · exact h.reset s hs
  · exact hs

theorem eStopRelease (hs : p s) : GoesOn p (execEStopRelease s) := by
  refine ⟨_, rfl, ?_⟩
  split
  · exact h.finish _ (h.wires rfl hs)
  · exact hs

theorem exec (c : Instr) (hs : p s) : GoesOn p (exec c s) := by
  cases c with
  | powerOn | resetPin => exact ⟨_, rfl, h.reset s hs⟩
  | inquire q => exact h.requested 0x10 q hs
  | setParameters q => exact h.requested 0x11 q hs
  | readParameters q => exact h.requested 0x12 q hs
  | routeWrite q => exact h.requested 0x13 q hs
  | routeCommit q => exact h.requested 0x14 q hs
  | routeRead q => exact h.requested 0x15 q hs
  | spurNotice q => exact h.requested 0x16 q hs
  | spurRestore q => exact h.requested 0x17 q hs
  | bayClear q => exact h.requested 0x18 q hs
  | listRead q => exact h.requested 0x19 q hs
  | counterSetup q => exact h.requested 0x1A q hs
  | counterRead q => exact h.requested 0x1B q hs
  | counterClear q => exact h.requested 0x1C q hs
  | start q => exact h.requested 0x1D q hs
  | halt q => exact h.requested 0x1E q hs
  | resume q => exact h.requested 0x1F q hs
  | config q => exact h.requested 0x20 q hs
  | nodeReset q => exact h.requested 0x21 q hs
  | nodeResetTakesEffect q => exact h.resetIf (s.resetOutstanding q) hs
  | unknownKindRequest kind q => exact h.unknownKindRequest kind q hs
  | notice payload => exact h.finished (h.noticeArrives payload hs)
  | creditSync value => exact h.finished (h.sync value _ (h.wires (wiresOnly_frameArrives .D s) hs))
  | creditLocked g r => exact h.finished (h.locked g r _ (h.wires (wiresOnly_frameArrives .D s) hs))
  | frameForward q f | frameDrop q f => exact h.finished (h.wholeFrame q f hs)
  | frameAbandon q cs => exact h.finished (h.lineChars q cs hs)
  | tagRead cs | badTagRead cs => exact h.finished (h.tagChars cs hs)
  | encoderTransition a b => exact h.finished (h.encoderSample (a, b) hs)
  | entryEyeBlocked => exact h.edge .entry true hs
  | entryEyeClear => exact h.edge .entry false hs
  | gateEyeBlocked i => exact h.edge (.gate i) true hs
  | gateEyeClear i => exact h.edge (.gate i) false hs
  | confirmEyeBlocked k => exact h.edge (.confirm k) true hs
  | confirmEyeClear k => exact h.edge (.confirm k) false hs
  | frontEyeBlocked k => exact h.edge (.front k) true hs
  | frontEyeClear k => exact h.edge (.front k) false hs
  | eStopAssertion => exact h.eStopAssertion hs
  | eStopRelease => exact h.eStopRelease hs
  | speedSample => exact h.finished (h.speed s hs)
  | paddlePulseExpiry k => exact h.onExpiry (h.paddle k) _ hs
  | gatePulseExpiry i => exact h.onExpiry (h.gate i) _ hs
  | releaseTimerExpiry i => exact h.onExpiry (h.release i) _ hs
  | chimeExpiry k => exact h.onExpiry (h.chime k) _ hs
  | chuteJamExpiry k => exact h.onExpiry (h.jam k) _ hs
  | lampStepExpiry k => exact h.onExpiry (h.lamp k s.params) _ hs
  | creditRefresh => exact h.finished (h.refresh s hs)
  | millisecondTick => exact h.finished (h.tick s hs)
  | frameSent q => exact h.ofFrameSent q hs

/-- The sample period and every command keep what the acts keep, where each halt has its cause. -/
theorem step {t : State} (hstep : step s = .next t) (hs : p s) : p t := by
  cases hp : s.pending with
  | nil =>
    obtain rfl := Host.Outcome.next.inj ((step_of_idle hp).symm.trans hstep)
    exact h.wires (wiresOnly_samplePeriod s) hs
  | cons c rest =>
    obtain ⟨u, hu, hkept⟩ := h.exec c (s := { s with pending := rest }) (h.wires rfl hs)
    have hexec : Machine.step s = Machine.exec c { s with pending := rest } := by rw [Machine.step, hp]
    obtain rfl := Host.Outcome.next.inj ((hu.symm.trans hexec.symm).trans hstep)
    exact hkept

end KeptByCausedActs

end Sys2Proof.Steps
end

section
/-! The law of node states: what of a state it reads, and the acts that leave that alone (R83, R152, R155, R157). -/

namespace Sys2Proof.Nodes

open Sys2Proof.Machine Sys2Proof.Safety

/-! ### What the law reads -/

/-- What the laws of halt causes, stopped outputs and the zone side in CONFIG read. -/
structure NodePart where
  state : NodeState
  cause : HaltCause
  expected : List Notice
  zone : List Tote
  exitHold : Bool
  spur : Ix → Spur
  paddle : Ix → Timer
  reserved : Ix → Nat

def paddles (s : State) (k : Ix) : Timer := (s.bays.get k).paddle

def nodePart (s : State) : NodePart where
  state := s.node.state
  cause := s.node.cause
  expected := s.expected
  zone := s.zone
  exitHold := s.credit.exitHold
  spur i := s.spurs.get i
  paddle := paddles s
  reserved k := (s.bays.get k).reserved

/-- A spur that holds nothing and times nothing. -/
def Unused (x : Spur) : Prop := x.st = .empty ∧ x.list = [] ∧ x.gateTimer = none ∧ x.releaseTimer = none

namespace NodePart

/-- No paddle pulse runs and no spur is GRANTED. -/
structure Stopped (n : NodePart) : Prop where
  paddle : ∀ k, n.paddle k = none
  grant : ∀ i, (n.spur i).st.isGranted = false

/-- The zone side is empty. -/
structure Quiet (n : NodePart) : Prop where
  expected : n.expected = []
  zone : n.zone = []
  exitHold : n.exitHold = false
  spur : ∀ i, Unused (n.spur i)
  paddle : ∀ k, n.paddle k = none
  reserved : ∀ k, n.reserved k = 0

/-- HALT has its cause and is stopped, and CONFIG is quiet. -/
structure Sound (n : NodePart) : Prop where
  cause : n.cause = .none ↔ n.state ≠ .halt
  stopped : n.state = .halt → n.Stopped
  quiet : n.state = .config → n.Quiet

theorem Quiet.stopped {n : NodePart} (h : n.Quiet) : n.Stopped where
  paddle := h.paddle
  grant i := by
    obtain ⟨hempty, -, -, -⟩ := h.spur i
    rw [hempty]; rfl

end NodePart

/-- The law of node states. -/
def Sound (s : State) : Prop := (nodePart s).Sound

theorem nodeSound_and_configQuiet_iff (s : State) : NodeSound s ∧ ConfigQuiet s ↔ Sound s := by
  unfold NodeSound ConfigQuiet
  simp only [Ix.forall_all]
  constructor
  · rintro ⟨⟨hcause, hstopped⟩, hquiet⟩
    refine ⟨hcause, fun hhalt => ?_, fun hconfig => ?_⟩
    · obtain ⟨hpaddle, hgrant⟩ := hstopped fun hrun => by cases hhalt.symm.trans hrun
      exact ⟨hpaddle, hgrant⟩
    · obtain ⟨hexpected, hzone, hhold, hspur, hbay⟩ := hquiet hconfig
      exact ⟨hexpected, hzone, hhold, hspur, fun k => (hbay k).2, fun k => (hbay k).1⟩
  · intro hs
    refine ⟨⟨hs.cause, fun hne => ?_⟩, fun hconfig => ?_⟩
    · have hstopped : (nodePart s).Stopped := by
        cases hstate : s.node.state with
        | run => exact absurd hstate hne
        | halt => exact hs.stopped hstate
        | config => exact (hs.quiet hstate).stopped
      exact ⟨hstopped.paddle, hstopped.grant⟩
    · obtain ⟨hexpected, hzone, hhold, hspur, hpaddle, hreserved⟩ := hs.quiet hconfig
      exact ⟨hexpected, hzone, hhold, hspur, fun k => ⟨hreserved k, hpaddle k⟩⟩

/-! ### How the law is kept -/

theorem Sound.of_eq {s t : State} (h : nodePart t = nodePart s) (hs : Sound s) : Sound t := by
  rwa [Sound, h]

/-- In RUN the law asks for no more than that no cause is held. -/
theorem sound_of_running {t : State} (hstate : t.node.state = .run) (hcause : t.node.cause = .none) : Sound t where
  cause := ⟨fun _ h => absurd (hstate.symm.trans h) nofun, fun _ => hcause⟩
  stopped h := absurd (hstate.symm.trans h) nofun
  quiet h := absurd (hstate.symm.trans h) nofun

section Kept

variable {s t : State} (hs : Sound s)

include hs

theorem Sound.stopped_of_not_run (h : s.node.state ≠ .run) : (nodePart s).Stopped := by
  cases hstate : s.node.state with
  | run => exact absurd hstate h
  | halt => exact hs.stopped hstate
  | config => exact (hs.quiet hstate).stopped

theorem Sound.run_of_granted {i : Ix} {g : Grant} (h : (s.spurs.get i).st = .granted g) : s.node.state = .run := by
  by_contra hne
  have hgrant : (s.spurs.get i).st.isGranted = false := (hs.stopped_of_not_run hne).grant i
  rw [h] at hgrant
  cases hgrant

variable (hnode : t.node = s.node)

include hnode

theorem Sound.of_node (hstopped : s.node.state = .halt → (nodePart s).Stopped → (nodePart t).Stopped)
    (hquiet : s.node.state = .config → (nodePart s).Quiet → (nodePart t).Quiet) : Sound t where
  cause := (congrArg (fun n => n.cause = .none ↔ n.state ≠ .halt) hnode).mpr hs.cause
  stopped h := have hhalt := (congrArg NodeControl.state hnode).symm.trans h; hstopped hhalt (hs.stopped hhalt)
  quiet h := have hconfig := (congrArg NodeControl.state hnode).symm.trans h; hquiet hconfig (hs.quiet hconfig)

theorem Sound.of_run (hrun : s.node.state = .run) : Sound t :=
  hs.of_node hnode (fun h => absurd (hrun.symm.trans h) nofun) fun h => absurd (hrun.symm.trans h) nofun

/-- An act of RUN and HALT that keeps pulses and spurs as they are in HALT. -/
theorem Sound.of_tracking (htracks : s.node.state ≠ .config)
    (hstill : s.node.state ≠ .run → paddles t = paddles s ∧ t.spurs = s.spurs) : Sound t := by
  refine hs.of_node hnode (fun hhalt hstopped => ?_) fun h => absurd h htracks
  obtain ⟨hpaddles, hspurs⟩ := hstill fun hrun => by cases hhalt.symm.trans hrun
  exact ⟨fun k => (congrFun hpaddles k).trans (hstopped.paddle k), fun i =>
    (congrArg (fun x : Tri Spur => (x.get i).st.isGranted) hspurs).trans (hstopped.grant i)⟩

/-- An act that in CONFIG finds nothing to do, and keeps pulses and spurs as they are in HALT. -/
theorem Sound.of_still (hstill : s.node.state ≠ .run → paddles t = paddles s ∧ t.spurs = s.spurs)
    (hidle : (nodePart s).Quiet → nodePart t = nodePart s) : Sound t := by
  by_cases hconfig : s.node.state = .config
  · exact hs.of_eq (hidle (hs.quiet hconfig))
  · exact hs.of_tracking hnode hconfig hstill

end Kept

/-! ### Acts that leave alone what the law reads -/

theorem nodePart_eq {s t : State} (node : t.node = s.node) (expected : t.expected = s.expected) (zone : t.zone = s.zone)
    (credit : t.credit.exitHold = s.credit.exitHold) (spurs : t.spurs = s.spurs) (paddle : paddles t = paddles s)
    (reserved : ∀ k, (t.bays.get k).reserved = (s.bays.get k).reserved) : nodePart t = nodePart s := by
  unfold nodePart
  simp only [node, expected, zone, credit, spurs, paddle, reserved]

theorem paddles_modBay {k : Ix} {f : Bay → Bay} {s : State} (h : ∀ b, (f b).paddle = b.paddle) :
    paddles (s.modBay k f) = paddles s := by
  funext j
  unfold paddles
  rw [State.modBay_bays_get]
  split <;> simp only [h]

theorem nodePart_modBay {k : Ix} {f : Bay → Bay} {s : State} (hpaddle : ∀ b, (f b).paddle = b.paddle)
    (hreserved : ∀ b, (f b).reserved = b.reserved) : nodePart (s.modBay k f) = nodePart s :=
  nodePart_eq rfl rfl rfl rfl rfl (paddles_modBay hpaddle) fun j => by
    rw [State.modBay_bays_get]; split <;> simp only [hreserved]

theorem nodePart_report (k : ReportKind) (d : Nat) (tag : BitVec 32) (order : BitVec 24) (s : State) :
    nodePart (s.report k d tag order) = nodePart s := by
  rw [State.report_frame]; rfl

theorem nodePart_expireTag (s : State) : nodePart s.expireTag = nodePart s := by
  rw [State.expireTag_frame]; rfl

theorem nodePart_takeTag (s : State) : nodePart s.takeTag.2 = nodePart s := by
  unfold State.takeTag; split <;> rfl

theorem nodePart_finish (s : State) : nodePart s.finish = nodePart s :=
  nodePart_eq s.finish_node s.finish_expected (by rw [State.finish_frame]) s.finish_exitHold (by rw [State.finish_frame])
    (by rw [State.finish_frame]; rfl) fun k => by rw [State.finish_frame]

theorem exitHold_grant (n : Nat) (c : CreditUnit) : (c.grant n).exitHold = c.exitHold := by
  unfold CreditUnit.grant
  split <;> rfl

theorem nodePart_grantCredits (s : State) : nodePart s.grantCredits = nodePart s :=
  nodePart_eq rfl rfl rfl (exitHold_grant ..) rfl rfl fun _ => rfl

theorem exitHold_clampView (c : CreditUnit) : c.clampView.exitHold = c.exitHold := by
  unfold CreditUnit.clampView; split <;> rfl

theorem nodePart_syncFrame (value : Byte) (s : State) :
    nodePart { s with credit := s.credit.syncFrame value } = nodePart s :=
  nodePart_eq rfl rfl rfl (exitHold_clampView _) rfl rfl fun _ => rfl

theorem exitHold_lockedFrame (g r : Byte) (c : CreditUnit) : (c.lockedFrame g r).exitHold = c.exitHold := by
  unfold CreditUnit.lockedFrame
  rw [exitHold_clampView]
  split <;> rfl

theorem nodePart_lockedFrame (g r : Byte) (s : State) :
    nodePart { s with credit := s.credit.lockedFrame g r } = nodePart s :=
  nodePart_eq rfl rfl rfl (exitHold_lockedFrame ..) rfl rfl fun _ => rfl

theorem nodePart_reportResync (g r : Byte) (s : State) : nodePart (s.reportResync g r) = nodePart s := by
  unfold State.reportResync
  split
  · exact nodePart_report ..
  · rfl

theorem nodePart_admission (q : Byte) (i : Ident) (s : State) : nodePart (s.admission q i).1 = nodePart s := by
  have hsync : nodePart (s.noticeInSync q i) =
      nodePart (if s.credit.o = 0 then s.report .noticeBeyondCredit 0 i.tag i.order else s) := by
    refine nodePart_eq rfl rfl rfl ?_ rfl rfl fun _ => rfl
    change s.credit.exitHold = _
    split
    · rw [State.report_credit]
    · rfl
  have hlocked : nodePart (s.noticeLocked q i) = nodePart (Entry.gapReported q i s) := by
    have hcredit : (Entry.gapReported q i s).credit = s.credit := by
      simp only [Entry.gapReported]
      split
      · rfl
      · rw [State.report_credit]
    by_cases hleft : (s.credit.g - (q + 1)).toNat < 128
    · rw [Entry.noticeLocked_within hleft]
      exact nodePart_eq rfl rfl rfl (congrArg CreditUnit.exitHold hcredit).symm rfl rfl fun _ => rfl
    · rw [Entry.noticeLocked_overdrawn (Nat.not_lt.mp hleft)]
      rw [State.report_frame]
      exact nodePart_eq rfl rfl rfl (congrArg CreditUnit.exitHold hcredit).symm rfl rfl fun _ => rfl
  have hgap : nodePart (Entry.gapReported q i s) = nodePart s := by
    simp only [Entry.gapReported]
    split
    · rfl
    · exact nodePart_report ..
  unfold State.admission
  split
  · rw [hsync]
    split
    · exact nodePart_report ..
    · rfl
  · split
    · exact nodePart_report ..
    · exact hlocked.trans hgap

theorem nodePart_takeFront (k : Ix) (d : Nat) (s : State) : nodePart (s.takeFront k d) = nodePart s := by
  obtain ⟨hbay, hothers⟩ := Lanes.takenFrom_takeFront k d s
  have hbays : ∀ j, ((s.takeFront k d).bays.get j).paddle = (s.bays.get j).paddle ∧
      ((s.takeFront k d).bays.get j).reserved = (s.bays.get j).reserved := fun j => by
    by_cases hj : j = k
    · rw [hj, hbay]; exact ⟨rfl, rfl⟩
    · rw [hothers j hj]; exact ⟨rfl, rfl⟩
  refine nodePart_eq ?_ ?_ ?_ ?_ ?_ (funext fun j => (hbays j).1) fun j => (hbays j).2
  all_goals rw [State.takeFront_frame]

theorem nodePart_takeMany (k : Ix) (d n : Nat) (s : State) : nodePart (State.takeMany k d n s) = nodePart s := by
  induction n generalizing s with
  | zero => rfl
  | succ n ih => exact (ih _).trans (nodePart_takeFront k d s)

theorem nodePart_frontCleared (k : Ix) (s : State) : nodePart (s.frontCleared k) = nodePart s := by
  unfold State.frontCleared
  split
  · rfl
  · exact nodePart_takeFront ..

theorem nodePart_confirmCleared (k : Ix) (s : State) : nodePart (s.confirmCleared k) = nodePart s := by
  have hcleared : nodePart (s.modBay k fun b => { b with chuteJam := none, blocked := false }) = nodePart s :=
    nodePart_modBay (fun _ => rfl) fun _ => rfl
  unfold State.confirmCleared
  simp only []
  split
  · exact (nodePart_report ..).trans hcleared
  · exact hcleared

theorem nodePart_chuteJammed (k : Ix) (s : State) : nodePart (s.chuteJammed k) = nodePart s := by
  have hjammed : nodePart (s.modBay k fun b => { b with chuteJam := none, blocked := true }) = nodePart s :=
    nodePart_modBay (fun _ => rfl) fun _ => rfl
  unfold State.chuteJammed
  simp only []
  split
  · exact hjammed
  · exact (nodePart_report ..).trans hjammed

theorem nodePart_landUnexpected (k : Ix) (s : State) : nodePart (s.landUnexpected k) = nodePart s := by
  unfold State.landUnexpected
  split
  · exact (nodePart_report ..).trans (nodePart_modBay (fun _ => rfl) fun _ => rfl)
  · exact nodePart_report ..

/-! ### Acts that leave the paddle pulses alone -/

theorem paddles_of_nodePart {s t : State} (h : nodePart t = nodePart s) : paddles t = paddles s :=
  congrArg NodePart.paddle h

theorem paddles_of_bays {s t : State} (h : t.bays = s.bays) : paddles t = paddles s := by
  unfold paddles; rw [h]

theorem paddles_missEffects (c : MissCause) (k : Ix) (i : Ident) (s : State) :
    paddles (s.missEffects c k i) = paddles s := by
  rw [State.missEffects_frame]
  exact paddles_modBay (s := s) (f := fun b => { b with reserved := b.reserved - 1 }) fun _ => rfl

/-- A paddle fires in RUN alone (R83). -/
theorem paddles_testArmed (t : Tote) {s : State} (h : s.node.state ≠ .run) : paddles (s.testArmed t).2 = paddles s := by
  unfold State.testArmed
  split
  · split
    · exact paddles_missEffects ..
    · split
      · split
        · exact paddles_missEffects ..
        · next hrun => exact absurd hrun h
        · rfl
      · rfl
  · rfl

theorem paddles_testDivert (t : Tote) {s : State} (h : s.node.state ≠ .run) : paddles (s.testDivert t).2 = paddles s := by
  unfold State.testDivert
  split
  · split
    · exact paddles_missEffects ..
    · rfl
  · exact paddles_testArmed t h

theorem paddles_exitFront (t : Tote) (rest : List Tote) (s : State) : paddles (s.exitFront t rest) = paddles s := by
  have hleaves : paddles ((Entry.frontGone t rest s).announceExit t) = paddles (Entry.frontGone t rest s) :=
    paddles_of_bays (by rw [State.announceExit_frame])
  rw [Entry.exitFront_eq, hleaves, Entry.frontGone, State.exitStillLand]
  split
  · rfl
  · exact paddles_missEffects ..

theorem paddles_claims (s : State) : paddles s.claims = paddles s := paddles_of_bays (by rw [State.claims_frame])

theorem paddles_exitLoop (n : Nat) (s : State) : paddles (State.exitLoop n s) = paddles s := by
  induction n generalizing s with
  | zero => rfl
  | succ n ih =>
    cases hz : s.zone with
    | nil => rw [Entry.exitLoop_of_empty hz]
    | cons t rest =>
      rw [Entry.exitLoop_succ hz]
      split
      · exact (ih _).trans ((paddles_claims _).trans (paddles_exitFront t rest s))
      · rfl

theorem paddles_routeEffects (i : Ident) (stray : Bool) (o : RouteOutcome) (s : State) :
    paddles (s.routeEffects i stray o) = paddles s := by
  have hreport : ∀ d, paddles (s.report .overflowPass d i.tag i.order) = paddles s := fun d =>
    paddles_of_nodePart (nodePart_report ..)
  unfold State.routeEffects
  split
  · split
    · rfl
    · exact hreport 0
  · split
    · exact hreport _
    · cases o.decision with
      | pass => rfl
      | land k => exact paddles_modBay fun _ => rfl

theorem paddles_arrive (stamp : Pos) (tag : Option (BitVec 32)) (s : State) : paddles (s.arrive stamp tag) = paddles s := by
  have happended : ∀ i stray noRead (u : State), paddles (u.appendEntering stamp i stray noRead) = paddles u :=
    fun i stray noRead u => paddles_routeEffects ..
  unfold State.arrive
  split
  · next skipped _ rest _ _ =>
    refine (happended ..).trans (paddles_of_bays ?_)
    rw [State.reportMissing_frame]
  · exact (happended ..).trans (paddles_of_nodePart (nodePart_report ..))

theorem paddles_singleLanding (k : Ix) (r : LandingRec) (s : State) : paddles (s.singleLanding k r) = paddles s :=
  (paddles_of_nodePart (nodePart_report ..)).trans (paddles_modBay fun _ => rfl)

theorem paddles_degradedLanding (why : ReportKind) (k : Ix) (r : LandingRec) (s : State) :
    paddles (s.degradedLanding why k r) = paddles s := by
  refine (paddles_singleLanding ..).trans ((paddles_of_nodePart (nodePart_report ..)).trans (paddles_modBay fun b => ?_))
  unfold Bay.degradeLast
  split <;> rfl

theorem paddles_countLanding (k : Ix) (r : LandingRec) (e : GroupEntry) (s : State) :
    paddles (s.countLanding k r e) = paddles s := by
  unfold State.countLanding
  simp only []
  split
  · refine (paddles_of_nodePart (nodePart_report ..)).trans (funext fun j => ?_)
    unfold paddles
    rw [Tri.get_ofFn]
    split <;> rfl
  · rfl

theorem paddles_assemblyLanding (k : Ix) (r : LandingRec) (s : State) : paddles (s.assemblyLanding k r) = paddles s := by
  unfold State.assemblyLanding
  split
  · exact paddles_singleLanding ..
  · split
    · split
      · exact paddles_degradedLanding ..
      · exact paddles_countLanding ..
    · split
      · exact paddles_countLanding ..
      · exact paddles_degradedLanding ..

theorem paddles_landTote (k : Ix) (t : Tote) (rest : List Tote) (s : State) : paddles (s.landTote k t rest) = paddles s := by
  have hgone : paddles (Belt.landedRecord k rest s) = paddles s := paddles_modBay (s := { s with zone := rest }) fun _ => rfl
  have hreported : ∀ d (u : State), paddles (Claims.reportIf .landed d t.ident.tag t.ident.order u) = paddles u := fun d u => by
    unfold Claims.reportIf
    split
    · exact paddles_of_nodePart (nodePart_report ..)
    · rfl
  by_cases hfull : 8 ≤ (s.bays.get k).landing.length
  · rw [Belt.landTote_full hfull]
    exact (hreported ..).trans hgone
  · rw [Belt.landTote_room (Nat.not_le.mp hfull), paddles_assemblyLanding]
    refine (hreported ..).trans ((paddles_modBay ?_).trans hgone)
    exact fun _ => rfl

end Sys2Proof.Nodes
end

section
/-! The acts of the blocks keep the law of node states (R4, R39 to R59, R81 to R89, R102 to R118, R153 to R157). -/

namespace Sys2Proof.Nodes

open Sys2Proof.Machine Sys2Proof.Claims Sys2Proof.Belt

open State (RecordsOnly)

/-! ### Expected list, claims, exits, merges -/

theorem sound_dropOverdue {s : State} (hs : Sound s) : Sound s.dropOverdue := by
  have hbays : s.dropOverdue.bays = s.bays := by rw [State.dropOverdue_frame]
  refine hs.of_still (RecordsOnly.dropOverdue s).node (fun _ => ⟨paddles_of_bays hbays, ?_⟩) fun hquiet => ?_
  · rw [State.dropOverdue_frame]
  · have hexpected : s.expected = [] := hquiet.expected
    rw [State.dropOverdue_frame, nodePart, hexpected]
    exact congrArg (fun l => { nodePart s with expected := l }) hexpected.symm

/-- With no record in the zone there is no claim to make. -/
theorem nodePart_claims_of_quiet {s : State} (h : (nodePart s).Quiet) : nodePart s.claims = nodePart s := by
  have hzone : s.zone = [] := h.zone
  have hhold : s.credit.exitHold = false := h.exitHold
  unfold State.claims
  split
  · exact nodePart_eq rfl rfl rfl hhold.symm rfl rfl fun _ => rfl
  · rw [hzone]
    exact nodePart_eq rfl rfl hzone.symm hhold.symm rfl rfl fun _ => rfl

theorem sound_claims {s : State} (hs : Sound s) : Sound s.claims :=
  hs.of_still (RecordsOnly.claims s).node (fun _ => ⟨paddles_claims s, by rw [State.claims_frame]⟩) nodePart_claims_of_quiet

theorem sound_exitTests {s : State} (hs : Sound s) : Sound s.exitTests := by
  have hpaddles : paddles s.exitTests = paddles s := (paddles_exitLoop ..).trans (paddles_claims s)
  refine hs.of_still (RecordsOnly.exitTests s).node (fun _ => ⟨hpaddles, by rw [State.exitTests_frame]⟩) fun hquiet => ?_
  have hclaims := nodePart_claims_of_quiet hquiet
  have hzone : s.claims.zone = [] := (congrArg NodePart.zone hclaims).trans hquiet.zone
  rw [State.exitTests, Entry.exitLoop_of_empty hzone, hclaims]

/-- A grant is made in RUN alone (R106). -/
theorem sound_reTest {s : State} (hs : Sound s) : Sound s.reTest := by
  by_cases hrun : s.node.state = .run
  · exact hs.of_run (RecordsOnly.reTest s).node hrun
  · rw [State.reTest_of_not_run hrun]
    exact hs.of_eq (nodePart_grantCredits s)

/-! ### Halts (R113, R114, R155) -/

theorem stickSpur_of_not_granted {i : Ix} {s : State} (h : (s.spurs.get i).st.isGranted = false) (d : Nat) :
    s.stickSpur i d = s := by
  unfold State.stickSpur
  split
  · next g hg => rw [hg] at h; cases h
  · rfl

theorem paddles_stickSpur (i : Ix) (d : Nat) (s : State) : paddles (s.stickSpur i d) = paddles s := by
  have hreleased : ∀ e, paddles (s.releaseDecision e) = paddles s := fun e => by
    cases e with
    | pass => rfl
    | land k => exact paddles_modBay fun _ => rfl
  unfold State.stickSpur
  split
  · simp only []
    split
    · exact (paddles_of_nodePart (nodePart_report ..)).trans (hreleased _)
    · exact hreleased _
  · rfl

/-- A spur that is stuck is GRANTED no longer; the others stay as they are. -/
theorem isGranted_stickSpur (i j : Ix) (d : Nat) (s : State) :
    ((s.stickSpur i d).spurs.get j).st.isGranted = (decide (j ≠ i) && (s.spurs.get j).st.isGranted) := by
  cases hi : (s.spurs.get i).st with
  | granted g =>
    have hspurs : (s.stickSpur i d).spurs =
        s.spurs.modify i fun x => { x with st := .blocked, gateTimer := none, releaseTimer := none } := by
      unfold State.stickSpur
      simp only [hi]
      split
      · rw [State.report_spurs, State.releaseDecision_frame]; rfl
      · rw [State.releaseDecision_frame]; rfl
    rw [hspurs, Tri.get_modify]
    by_cases hj : j = i <;> simp [hj, SpurState.isGranted]
  | empty | waiting | blocked =>
    have hfree : (s.spurs.get i).st.isGranted = false := by rw [hi]; rfl
    rw [stickSpur_of_not_granted hfree]
    by_cases hj : j = i
    · rw [hj, hfree, Bool.and_false]
    · simp [hj]

/-- A halt before it ends the grants: state and cause are set and HALTED is reported, and no pulse runs (R155). -/
def pulsesCut (c : HaltCause) (s : State) : State :=
  let halted := ({ s with node := { s.node with state := .halt, cause := c } } : State).report .halted c.code 0 0
  { halted with bays := halted.bays.map Bay.cutPulse }

theorem enterHalt_of_run {s : State} (h : s.node.state = .run) (c : HaltCause) :
    s.enterHalt c = (((pulsesCut c s).stickSpur .i0 3).stickSpur .i1 4).stickSpur .i2 5 := by
  unfold State.enterHalt
  rw [h]
  rfl

theorem paddles_pulsesCut (c : HaltCause) (s : State) (k : Ix) : paddles (pulsesCut c s) k = none :=
  congrArg Bay.paddle (Tri.get_map ..)

/-- With the three spurs stuck no grant is left. -/
theorem stopped_of_stuck {s : State} (h : ∀ k, paddles s k = none) (d e f : Nat) :
    (nodePart (((s.stickSpur .i0 d).stickSpur .i1 e).stickSpur .i2 f)).Stopped where
  paddle k := by
    change paddles _ k = none
    rw [paddles_stickSpur, paddles_stickSpur, paddles_stickSpur, h]
  grant i := by
    refine (isGranted_stickSpur ..).trans ?_
    rw [isGranted_stickSpur, isGranted_stickSpur]
    cases i <;> rfl

/-- A halt with a cause stops every pulse and ends every grant. -/
theorem sound_enterHalt {c : HaltCause} (hc : c ≠ .none) {s : State} (hs : Sound s) : Sound (s.enterHalt c) := by
  by_cases hrun : s.node.state = .run
  · have hnode : (s.enterHalt c).node = { s.node with state := .halt, cause := c } := by
      rw [State.enterHalt_node, if_pos hrun]
    have hstate : (s.enterHalt c).node.state = .halt := congrArg NodeControl.state hnode
    have hcause : (s.enterHalt c).node.cause = c := congrArg NodeControl.cause hnode
    refine ⟨⟨fun h => absurd (hcause.symm.trans h) hc, fun h => absurd hstate h⟩, fun _ => ?_,
      fun h => absurd (hstate.symm.trans h) nofun⟩
    rw [enterHalt_of_run hrun]
    exact stopped_of_stuck (paddles_pulsesCut c s) 3 4 5
  · rwa [State.enterHalt_of_not_run hrun]

/-! ### A change of P and speed samples (R4, R80) -/

theorem sound_jamTest {s : State} (hs : Sound s) : Sound s.jamTest := by
  unfold State.jamTest
  split
  · exact sound_enterHalt (c := .jam) nofun hs
  · exact hs

section Divert

variable {test : Tote → State → Tote × State}
  (hframe : ∀ t s, (test t s).2 = { s with
    bays := (test t s).2.bays, reports := (test t s).2.reports
    dropped := (test t s).2.dropped, counters := (test t s).2.counters })
  (hpaddles : ∀ t {s : State}, s.node.state ≠ .run → paddles (test t s).2 = paddles s)

include hframe hpaddles

theorem paddles_walkZone (l : List Tote) {s : State} (h : s.node.state ≠ .run) :
    paddles (walkZone test l s).2 = paddles s := by
  induction l generalizing s with
  | nil => rfl
  | cons t l ih =>
    have hnode : (test t s).2.node = s.node := by rw [hframe t s]
    exact (ih (hnode ▸ h)).trans (hpaddles t h)

theorem sound_divertTests {s : State} (hs : Sound s) : Sound (s.divertTests test) := by
  have hwalk := State.divertTests_frame hframe s
  refine hs.of_still (by rw [hwalk]) (fun hrun => ⟨paddles_walkZone hframe hpaddles s.zone hrun, by rw [hwalk]⟩)
    fun hquiet => ?_
  have hzone : s.zone = [] := hquiet.zone
  unfold State.divertTests
  rw [hzone]
  exact nodePart_eq rfl rfl hzone.symm rfl rfl rfl fun _ => rfl

end Divert

theorem sound_positionChange {s : State} (hs : Sound s) : Sound s.positionChange :=
  have hdue := sound_dropOverdue (hs.of_eq (nodePart_expireTag s))
  sound_reTest (sound_exitTests (sound_divertTests State.testDivert_frame paddles_testDivert (sound_jamTest hdue)))

theorem sound_retargeted {s : State} (hs : Sound s) : Sound (retargeted s) :=
  hs.of_still rfl (fun _ => ⟨rfl, rfl⟩) fun hquiet => by
    have hzone : s.zone = [] := hquiet.zone
    refine nodePart_eq rfl rfl ?_ rfl rfl rfl fun _ => rfl
    rw [retargeted, hzone]; rfl

theorem sound_takeSample {s : State} (hs : Sound s) : Sound s.takeSample := by
  have hhalt : Sound (haltOnStall s) := by
    have hsampled : Sound (sampled s) := hs.of_eq rfl
    unfold haltOnStall
    split
    · exact sound_enterHalt (c := .stall) nofun hsampled
    · exact hsampled
  rw [takeSample_eq]
  exact sound_reTest (sound_claims (sound_divertTests State.testArmed_frame paddles_testArmed (sound_retargeted hhalt)))

/-! ### The entry eye (R43 to R53) -/

theorem tracks_of_honours {s : State} {e : Edge} (h : ¬ (!s.honours e) = true) : s.node.state ≠ .config := by
  simp only [State.honours, State.tracking, Bool.not_eq_true, Bool.not_eq_false', Bool.and_eq_true, decide_eq_true_eq] at h
  exact h.2

theorem sound_arrive {s : State} (htracks : s.node.state ≠ .config) (stamp : Pos) (tag : Option (BitVec 32))
    (hs : Sound s) : Sound (s.arrive stamp tag) := by
  refine hs.of_tracking (recordsOnly_arrive stamp tag s).node htracks fun _ => ⟨paddles_arrive stamp tag s, ?_⟩
  unfold State.arrive
  split
  · rw [State.appendEntering_frame, State.reportMissing_frame]
  · rw [State.appendEntering_frame, State.offer_spurs, State.report_spurs]

theorem sound_entryLeading (e : Edge) {s : State} (hs : Sound s) : Sound (s.entryLeading e) := by
  unfold State.entryLeading
  split
  · exact hs
  next hhonoured =>
  split
  · exact hs
  have htag : Sound s.takeTag.2 := hs.of_eq (nodePart_takeTag s)
  have htracks : s.takeTag.2.node.state ≠ .config := (RecordsOnly.takeTag s).node ▸ tracks_of_honours hhonoured
  split
  · exact htag.of_eq (nodePart_report ..)
  · exact sound_reTest (sound_exitTests (sound_dropOverdue (sound_arrive htracks _ _ htag)))

theorem testArmed_spurs (t : Tote) (s : State) : (s.testArmed t).2.spurs = s.spurs := by
  rw [State.testArmed_frame]

theorem sound_closeEntering {s : State} (htracks : s.node.state ≠ .config) (stamp : Pos) (init : List Tote) (t : Tote)
    (d : Decision) (hs : Sound s) : Sound (s.closeEntering stamp init t d) := by
  have hreported : nodePart (mismatchReported t (measuredLength t.lead stamp) s) = nodePart s := by
    unfold mismatchReported
    split
    · exact nodePart_report ..
    · rfl
  have hm := hs.of_eq hreported
  have htracks' : (mismatchReported t (measuredLength t.lead stamp) s).node.state ≠ .config :=
    (recordsOnly_mismatchReported t (measuredLength t.lead stamp) s).node ▸ htracks
  cases d with
  | pass =>
    rw [closeEntering_pass]
    exact hm.of_tracking rfl htracks' fun _ => ⟨rfl, rfl⟩
  | land k =>
    rw [closeEntering_land]
    refine hm.of_tracking (RecordsOnly.testArmed ..).node htracks' fun hrun => ⟨paddles_testArmed _ hrun, ?_⟩
    exact testArmed_spurs ..

theorem sound_entryTrailing (e : Edge) {s : State} (hs : Sound s) : Sound (s.entryTrailing e) := by
  unfold State.entryTrailing
  split
  · exact hs
  next hhonoured =>
  split
  · split
    · exact sound_reTest (sound_claims (sound_closeEntering (tracks_of_honours hhonoured) _ _ _ _ hs))
    · exact hs
  · exact hs

/-! ### Gate eyes and spurs (R100 to R115) -/

/-- In RUN and HALT a spur may change, if no grant comes of it. -/
theorem sound_modSpur {i : Ix} {f : Spur → Spur} {s : State} (htracks : s.node.state ≠ .config)
    (hf : (s.spurs.get i).st.isGranted = false → (f (s.spurs.get i)).st.isGranted = false) (hs : Sound s) :
    Sound (s.modSpur i f) := by
  refine hs.of_node rfl (fun _ hstopped => ⟨hstopped.paddle, fun j => ?_⟩) fun h => absurd h htracks
  change (((s.modSpur i f).spurs.get j).st.isGranted) = false
  rw [State.modSpur_spurs_get]
  split
  · next hj => exact hj ▸ hf (hstopped.grant i)
  · exact hstopped.grant j

/-- A spur's timers may stop in any state. -/
theorem sound_stopTimers {i : Ix} {f : Spur → Spur} {s : State} (hgrant : ∀ x, (f x).st = x.st)
    (hunused : ∀ x, Unused x → Unused (f x)) (hs : Sound s) : Sound (s.modSpur i f) := by
  by_cases htracks : s.node.state = .config
  · refine hs.of_node rfl (fun h => absurd (htracks.symm.trans h) nofun) fun _ hquiet => ?_
    refine ⟨hquiet.expected, hquiet.zone, hquiet.exitHold, fun j => ?_, hquiet.paddle, hquiet.reserved⟩
    change Unused ((s.modSpur i f).spurs.get j)
    rw [State.modSpur_spurs_get]
    split
    · exact hunused _ (hquiet.spur j)
    · exact hquiet.spur j
  · exact sound_modSpur htracks (fun h => by rw [hgrant]; exact h) hs

theorem sound_loseFront {i : Ix} {s : State} (htracks : s.node.state ≠ .config) (d : Nat) (hs : Sound s) :
    Sound (s.loseFront i d) := by
  have hlost : Sound (s.modSpur i fun x => { x with st := .empty, list := x.list.tail }) :=
    sound_modSpur htracks (fun _ => rfl) hs
  unfold State.loseFront
  simp only []
  split
  · exact hlost.of_eq (nodePart_report ..)
  · exact hlost

theorem tracks_of_gateActs {i : Ix} {s : State} (h : s.gateActs i = true) : s.node.state ≠ .config :=
  ((gateActs_iff i s).mp h).1

theorem sound_gateBlocked (i : Ix) {s : State} (hs : Sound s) : Sound (s.gateBlocked i) := by
  unfold State.gateBlocked
  split
  · next hacts =>
    have htracks := tracks_of_gateActs (Bool.and_eq_true_iff.mp hacts).1
    refine sound_reTest ?_
    unfold State.toteAtGate
    split
    · exact sound_modSpur htracks (fun _ => rfl) hs
    · exact (sound_modSpur htracks (fun _ => rfl) hs).of_eq (nodePart_report ..)
  · exact hs

theorem recordsOnly_gateReleased (i : Ix) (stamp : Pos) (g : Grant) (s : State) :
    RecordsOnly s (s.gateReleased i stamp g) := by
  unfold State.gateReleased
  split
  · exact .refl s
  · exact .ite (recordsOnly_discardGranted ..) (.ite (recordsOnly_discardGranted ..) (recordsOnly_insertGranted ..))

/-- A tote that clears its gate with a grant does so in RUN (R112). -/
theorem sound_gateCleared (i : Ix) (e : Edge) {s : State} (hs : Sound s) : Sound (s.gateCleared i e) := by
  unfold State.gateCleared
  split
  · next hacts =>
    split
    · exact sound_loseFront (tracks_of_gateActs hacts) _ hs
    · next g hg => exact sound_reTest (hs.of_run (recordsOnly_gateReleased i _ g s).node (hs.run_of_granted hg))
    · exact hs
  · exact hs

theorem sound_releaseExpired (i : Ix) {s : State} (hs : Sound s) :
    Sound ((s.stickSpur i i.toNat).modSpur i fun x => { x with releaseTimer := none }).reTest := by
  have hstuck : Sound (s.stickSpur i i.toNat) := by
    by_cases hrun : s.node.state = .run
    · exact hs.of_run (RecordsOnly.stickSpur i i.toNat s).node hrun
    · rwa [stickSpur_of_not_granted ((hs.stopped_of_not_run hrun).grant i)]
  exact sound_reTest (sound_stopTimers (fun _ => rfl) (fun x ⟨hst, hlist, hgate, _⟩ => ⟨hst, hlist, hgate, rfl⟩) hstuck)

/-! ### Confirm eyes (R87 to R91) -/

theorem sound_landTote {k : Ix} {t : Tote} {rest : List Tote} {s : State} (h : takeConfirming k s.zone = some (t, rest))
    (hs : Sound s) : Sound (s.landTote k t rest) := by
  have htracks : s.node.state ≠ .config := fun hconfig => by
    have hzone : s.zone = [] := (hs.quiet hconfig).zone
    rw [hzone] at h
    cases h
  have hreported : ∀ d (u : State), (reportIf .landed d t.ident.tag t.ident.order u).spurs = u.spurs := fun d u => by
    unfold reportIf; split
    · rw [State.report_spurs]
    · rfl
  refine hs.of_tracking (recordsOnly_landTote k t rest s).node htracks fun _ => ⟨paddles_landTote k t rest s, ?_⟩
  by_cases hfull : 8 ≤ (s.bays.get k).landing.length
  · rw [landTote_full hfull]
    exact hreported ..
  · rw [landTote_room (Nat.not_le.mp hfull), State.assemblyLanding_frame]
    exact hreported ..

theorem sound_confirmBlocked (k : Ix) {s : State} (hs : Sound s) : Sound (s.confirmBlocked k) := by
  have hjam : Sound (s.startChuteJam k) := hs.of_eq (nodePart_modBay (fun _ => rfl) fun _ => rfl)
  unfold State.confirmBlocked
  split
  · next htaken => exact sound_reTest (sound_exitTests (sound_landTote htaken hjam))
  · exact hjam.of_eq (nodePart_landUnexpected ..)

theorem sound_ownerOf (i : EyeId) (b : Bool) (e : Edge) {s : State} (hs : Sound s) : Sound (ownerOf i b e s) := by
  cases i <;> cases b
  · exact sound_entryTrailing e hs
  · exact sound_entryLeading e hs
  · exact sound_gateCleared _ e hs
  · exact sound_gateBlocked _ hs
  · exact hs.of_eq (nodePart_confirmCleared ..)
  · exact sound_confirmBlocked _ hs
  · exact hs.of_eq (nodePart_frontCleared ..)
  · exact hs

/-! ### Notices and credits (R39, R138 to R148) -/

theorem sound_trackNotice (i : Ident) {s : State} (hs : Sound s) : Sound (s.trackNotice i) := by
  unfold State.trackNotice
  split
  · exact hs.of_eq (nodePart_report ..)
  · next hnone =>
    have htracks : s.node.state ≠ .config := fun hconfig => by
      rw [Entry.noticeRefusal_of_config hconfig] at hnone
      cases hnone
    exact sound_dropOverdue (hs.of_tracking rfl htracks fun _ => ⟨rfl, rfl⟩)

theorem sound_takeNotice (q : Byte) (i : Ident) {s : State} (hs : Sound s) : Sound (s.takeNotice q i) := by
  have hadmitted : Sound (s.admission q i).1 := hs.of_eq (nodePart_admission ..)
  unfold State.takeNotice
  simp only []
  split
  · exact sound_reTest (sound_trackNotice i hadmitted)
  · exact hadmitted

theorem sound_takeSync (value : Byte) {s : State} (hs : Sound s) : Sound (s.takeSync value) :=
  sound_reTest (sound_claims (hs.of_eq (nodePart_syncFrame value s)))

theorem sound_takeLocked (g r : Byte) {s : State} (hs : Sound s) : Sound (s.takeLocked g r) :=
  sound_reTest (sound_claims ((hs.of_eq (nodePart_reportResync g r s)).of_eq (nodePart_lockedFrame g r _)))

/-! ### The clock -/

theorem sound_tick {s : State} (hs : Sound s) : Sound s.tick := by
  have hpaddle : ∀ k, (nodePart s).paddle k = none → (nodePart s.tick).paddle k = none := fun k h => by
    change ((s.bays.map Bay.tick).get k).paddle = none
    rw [Tri.get_map]
    exact congrArg Timer.tick h
  have hspur : ∀ i, (nodePart s.tick).spur i = ((nodePart s).spur i).tick := fun i => Tri.get_map ..
  refine hs.of_node rfl (fun _ hstopped => ⟨fun k => hpaddle k (hstopped.paddle k), fun i => ?_⟩) fun _ hquiet => ?_
  · rw [hspur]; exact hstopped.grant i
  · refine ⟨hquiet.expected, hquiet.zone, hquiet.exitHold, fun i => ?_, fun k => hpaddle k (hquiet.paddle k), fun k => ?_⟩
    · obtain ⟨hst, hlist, hgate, hrelease⟩ := hquiet.spur i
      rw [hspur]
      exact ⟨hst, hlist, congrArg Timer.tick hgate, congrArg Timer.tick hrelease⟩
    · change ((s.bays.map Bay.tick).get k).reserved = 0
      rw [Tri.get_map]
      exact hquiet.reserved k

theorem sound_resetPart (s : State) : Sound s.resetPart :=
  have hreset : Sound State.reset := (nodeSound_and_configQuiet_iff State.reset).mp
    ⟨by unfold Safety.NodeSound; decide, by unfold Safety.ConfigQuiet; decide⟩
  hreset.of_eq rfl

theorem sound_cutPulse (k : Ix) {s : State} (hs : Sound s) : Sound (s.modBay k fun b => { b with paddle := none }) := by
  have hpaddle : ∀ j, (nodePart s).paddle j = none →
      (nodePart (s.modBay k fun b => { b with paddle := none })).paddle j = none := fun j h => by
    change ((s.modBay k _).bays.get j).paddle = none
    rw [State.modBay_bays_get]
    split
    · rfl
    · exact h
  refine hs.of_node rfl (fun _ hstopped => ⟨fun j => hpaddle j (hstopped.paddle j), hstopped.grant⟩) fun _ hquiet => ?_
  refine ⟨hquiet.expected, hquiet.zone, hquiet.exitHold, hquiet.spur, fun j => hpaddle j (hquiet.paddle j), fun j => ?_⟩
  change ((s.modBay k _).bays.get j).reserved = 0
  rw [State.modBay_bays_get]
  split
  all_goals exact hquiet.reserved j

end Sys2Proof.Nodes
end

section
/-! Every step keeps cause with state, paddles and grants to RUN, and a node in CONFIG quiet (R83, R152 to R157). -/

namespace Sys2Proof.Nodes

open Sys2Proof.Machine Sys2Proof.Belt Sys2Proof.Steps

/-! ### Requests -/

/-- A request that keeps the law of node states whatever its payload. -/
def SoundHandler (op : Handler) : Prop := ∀ p s, Sound s → Sound (op p s).1

theorem soundHandler_of_nodePart {op : Handler} (h : ∀ p s, nodePart (op p s).1 = nodePart s) : SoundHandler op :=
  fun p s hs => hs.of_eq (h p s)

theorem soundHandler_of_read {op : Handler} (h : ∀ p s, (op p s).1 = s) : SoundHandler op :=
  soundHandler_of_nodePart fun p s => by rw [h]

theorem soundHandler_setParameters : SoundHandler reqSetParameters := soundHandler_of_nodePart fun p s => by
  unfold reqSetParameters
  split
  · split
    · rfl
    · rw [writePairs_frame]; rfl
  · rfl

theorem soundHandler_routeWrite : SoundHandler reqRouteWrite := soundHandler_of_nodePart fun p s => by
  unfold reqRouteWrite
  repeat' split
  all_goals rfl

theorem soundHandler_routeCommit : SoundHandler reqRouteCommit := soundHandler_of_nodePart fun p s => by
  unfold reqRouteCommit
  split <;> rfl

theorem soundHandler_counterSetup : SoundHandler reqCounterSetup := soundHandler_of_nodePart fun p s => by
  unfold reqCounterSetup
  repeat' split
  all_goals rfl

theorem soundHandler_counterClear : SoundHandler reqCounterClear := soundHandler_of_nodePart fun p s => by
  unfold reqCounterClear
  repeat' split
  all_goals rfl

theorem soundHandler_bayClear : SoundHandler reqBayClear := soundHandler_of_nodePart fun p s => by
  unfold reqBayClear
  split
  · split
    · rfl
    · split
      · rfl
      · exact nodePart_takeMany ..
  · rfl

/-- A node in CONFIG takes no spur notice (R100). -/
theorem soundHandler_spurNotice : SoundHandler reqSpurNotice := fun p s hs => by
  unfold reqSpurNotice
  split
  · exact hs
  split
  · exact hs
  split
  · exact hs
  · next i _ hnone =>
    have htracks : s.node.state ≠ .config := fun hconfig => by
      rw [State.spurRefusal, if_pos (.inl hconfig)] at hnone
      cases hnone
    exact sound_modSpur htracks id hs

/-- In CONFIG no spur is BLOCKED (R118). -/
theorem soundHandler_spurRestore : SoundHandler reqSpurRestore := fun p s hs => by
  unfold reqSpurRestore
  split
  · split
    · exact hs
    · next i _ =>
      split
      · next hblocked =>
        have htracks : s.node.state ≠ .config := fun hconfig => by
          obtain ⟨hempty, -, -, -⟩ := (hs.quiet hconfig).spur i
          cases hblocked.symm.trans hempty
        have hrestored : Sound (s.restoreSpur i) := by
          unfold State.restoreSpur
          split
          · exact sound_reTest (sound_modSpur htracks (fun _ => rfl) hs)
          · exact sound_loseFront htracks _ hs
        exact hrestored
      · exact hs
  · exact hs

theorem sound_startNode (s : State) : Sound s.startNode := by
  have hstarted : Sound { s with
      node := { s.node with state := .run, cause := .none }
      spurs := s.spurs.map fun (x : Spur) => { x with passedOver := 0 }
      lastWinner := .i2
      credit := { s.credit with mode := .sync, o := 0 } } := sound_of_running rfl rfl
  exact sound_reTest hstarted

theorem soundHandler_start : SoundHandler reqStart := fun p s hs => by
  unfold reqStart
  split
  · exact hs
  split
  · exact hs
  split
  · exact hs
  split
  · exact hs
  · exact sound_startNode s

theorem soundHandler_halt : SoundHandler reqHalt := fun p s hs => by
  unfold reqHalt
  split
  · exact hs
  · split
    · exact hs
    · exact hs
    · exact sound_reTest (sound_enterHalt (c := .request) nofun hs)

theorem sound_resumeNode (s : State) : Sound s.resumeNode := by
  have hresumed : Sound { s with node := { s.node with state := .run, cause := .none } } := sound_of_running rfl rfl
  exact sound_reTest (hresumed.of_eq (nodePart_report ..))

theorem soundHandler_resume : SoundHandler reqResume := fun p s hs => by
  unfold reqResume
  split
  · exact hs
  split
  · exact hs
  split
  · exact hs
  · exact sound_resumeNode s

/-- CONFIG entry empties the zone side (R157). -/
theorem sound_enterConfig (s : State) : Sound s.enterConfig := by
  refine ⟨⟨fun _ => nofun, fun _ => rfl⟩, nofun, fun _ => ⟨?_, ?_, rfl, fun i => ?_, fun k => ?_, fun k => ?_⟩⟩
  · exact State.report_expected ..
  · exact State.report_zone ..
  · have hspur : (nodePart s.enterConfig).spur i = (s.spurs.get i).discarded := by
      unfold nodePart State.enterConfig
      simp only [Tri.get_map, State.report_spurs]
    rw [hspur]
    exact ⟨rfl, rfl, rfl, rfl⟩
  · exact congrArg Bay.paddle (Tri.get_map ..)
  · exact congrArg Bay.reserved (Tri.get_map ..)

theorem soundHandler_config : SoundHandler reqConfig := fun p s hs => by
  unfold reqConfig
  split
  · exact hs
  split
  · exact hs
  · exact sound_enterConfig s

theorem soundHandler_handlerOf (kind : Byte) : SoundHandler (handlerOf kind) := by
  unfold handlerOf
  split
  · exact soundHandler_of_read Totes.reqInquire_state
  · exact soundHandler_setParameters
  · exact soundHandler_of_read Totes.reqReadParameters_state
  · exact soundHandler_routeWrite
  · exact soundHandler_routeCommit
  · exact soundHandler_of_read Totes.reqRouteRead_state
  · exact soundHandler_spurNotice
  · exact soundHandler_spurRestore
  · exact soundHandler_bayClear
  · exact soundHandler_of_read Totes.reqListRead_state
  · exact soundHandler_counterSetup
  · exact soundHandler_of_read Totes.reqCounterRead_state
  · exact soundHandler_counterClear
  · exact soundHandler_start
  · exact soundHandler_halt
  · exact soundHandler_resume
  · exact soundHandler_config
  · exact soundHandler_of_read Totes.reqNodeReset_state
  · exact soundHandler_of_read fun _ _ => rfl

/-! ### Every step -/

theorem nodePart_of_wiresOnly {s t : State} (h : WiresOnly s t) : nodePart t = nodePart s := by
  rw [h]; rfl

theorem keeps_of_nodePart {act : State → State} (h : ∀ s, nodePart (act s) = nodePart s) : Keeps Sound act :=
  fun s hs => hs.of_eq (h s)

/-- Each act of the commands keeps the law of node states. -/
theorem soundIsKept : KeptByCausedActs Sound where
  wires h hs := hs.of_eq (nodePart_of_wiresOnly h)
  finish := keeps_of_nodePart nodePart_finish
  reset s _ := sound_resetPart s
  request kind := soundHandler_handlerOf kind
  notice q i _ := sound_takeNotice q i
  sync value _ := sound_takeSync value
  locked g r _ := sound_takeLocked g r
  move _ := sound_positionChange
  halt _ hc _ hs := sound_reTest (sound_enterHalt hc hs)
  speed _ := sound_takeSample
  owner i b e _ := sound_ownerOf i b e
  paddle k _ := sound_cutPulse k
  gate _ _ hs := sound_stopTimers (fun _ => rfl) (fun _ ⟨hst, hlist, _, hrelease⟩ => ⟨hst, hlist, rfl, hrelease⟩) hs
  release i _ := sound_releaseExpired i
  chime _ := keeps_of_nodePart fun _ => nodePart_modBay (fun _ => rfl) fun _ => rfl
  jam k := keeps_of_nodePart (nodePart_chuteJammed k)
  lamp _ _ := keeps_of_nodePart fun _ => nodePart_modBay (fun _ => rfl) fun _ => rfl
  refresh := keeps_of_nodePart fun _ => rfl
  tick _ := sound_tick

/-- Settles O52: a halt has its cause and stops pulses and grants, CONFIG entry empties the zone side, and no other act makes a
record, a pulse or a grant in either. -/
theorem stepsKeepNodeStatesSound : Obligations.StepsKeepNodeStatesSound := by
  unfold Obligations.StepsKeepNodeStatesSound
  intro s t hnode hquiet hstep
  have hs := (nodeSound_and_configQuiet_iff s).mp ⟨hnode, hquiet⟩
  exact (nodeSound_and_configQuiet_iff t).mpr (soundIsKept.step hstep hs)

end Sys2Proof.Nodes
end

section
/-! The law of spur states: what it asks of one spur, and the changes of a spur that keep it (R31, R101, R110, R113). -/

namespace Sys2Proof.Spurs

open Sys2Proof.Machine Sys2Proof.Safety

/-! ### A spur list by the spur's state (R31, R101) -/

/-- A tote stands at the gate, and the records behind its own are ANNOUNCED. -/
def GateFirst (l : List SpurRec) : Prop := ∃ r rest, l = r :: rest ∧ r.sub = .atGate ∧ allAnnounced rest

/-- The table of R31. -/
def FrontFits : SpurState → List SpurRec → Prop
  | .empty, l => allAnnounced l
  | .waiting, l | .granted _, l | .blocked, l => GateFirst l

theorem allAnnounced_append {l : List SpurRec} {r : SpurRec} (h : allAnnounced l) (hr : r.sub = .announced) :
    allAnnounced (l ++ [r]) := fun x hx => by
  rcases List.mem_append.mp hx with hx | hx
  · exact h x hx
  · exact List.mem_singleton.mp hx ▸ hr

theorem GateFirst.append {l : List SpurRec} {r : SpurRec} (h : GateFirst l) (hr : r.sub = .announced) :
    GateFirst (l ++ [r]) := by
  obtain ⟨front, rest, rfl, hfront, hrest⟩ := h
  exact ⟨front, rest ++ [r], rfl, hfront, allAnnounced_append hrest hr⟩

namespace FrontFits

variable {st : SpurState} {l : List SpurRec}

/-- A record joins at the back as ANNOUNCED (R100). -/
theorem append {r : SpurRec} (h : FrontFits st l) (hr : r.sub = .announced) : FrontFits st (l ++ [r]) := by
  cases st with
  | empty => exact allAnnounced_append h hr
  | waiting | granted | blocked => exact GateFirst.append h hr

theorem gateFirst (h : FrontFits st l) (hst : st ≠ .empty) : GateFirst l := by
  cases st with
  | empty => exact absurd rfl hst
  | waiting | granted | blocked => exact h

/-- What stands behind the front record is ANNOUNCED in every state. -/
theorem tail (h : FrontFits st l) : allAnnounced l.tail := by
  by_cases hst : st = .empty
  · subst hst
    exact fun r hr => h r (List.mem_of_mem_tail hr)
  · obtain ⟨r, rest, rfl, -, hrest⟩ := h.gateFirst hst
    exact hrest

end FrontFits

/-! ### One spur -/

/-- The law of one spur by its parts. -/
structure Sound (x : Spur) : Prop where
  front : FrontFits x.st x.list
  release : x.releaseTimer.isSome = x.st.isGranted
  gate : x.gateTimer.isSome = true → x.st.isGranted = true
  passed : x.passedOver ≤ 15

theorem spurSound_iff (x : Spur) : spurSound x ↔ Sound x := by
  have hfront : spurSound x ↔ FrontFits x.st x.list ∧ x.releaseTimer.isSome = x.st.isGranted ∧
      (x.gateTimer.isSome = true → x.st.isGranted = true) ∧ x.passedOver ≤ 15 := by
    unfold spurSound
    cases x.st <;> exact Iff.rfl
  exact hfront.trans ⟨fun ⟨hf, hr, hg, hp⟩ => ⟨hf, hr, hg, hp⟩, fun h => ⟨h.front, h.release, h.gate, h.passed⟩⟩

namespace Sound

variable {x : Spur} (h : Sound x)

include h

/-- State and list change, and the spur is GRANTED after as before. -/
theorem moved {st : SpurState} {l : List SpurRec} (hgrant : st.isGranted = x.st.isGranted) (hfront : FrontFits st l) :
    Sound { x with st := st, list := l } where
  front := hfront
  release := h.release.trans hgrant.symm
  gate hg := hgrant.trans (h.gate hg)
  passed := h.passed

/-- The spur is GRANTED no longer, and its timers stop. -/
theorem stopped {st : SpurState} {l : List SpurRec} (hgrant : st.isGranted = false) (hfront : FrontFits st l) :
    Sound { x with st := st, list := l, gateTimer := none, releaseTimer := none } where
  front := hfront
  release := hgrant.symm
  gate := nofun
  passed := h.passed

/-- A grant to a WAITING spur starts both timers (R109). -/
theorem granted (hst : x.st = .waiting) (g : Grant) (m n : Nat) :
    Sound { x with st := .granted g, gateTimer := some m, releaseTimer := some n } where
  front := h.front.gateFirst (hst ▸ nofun)
  release := rfl
  gate _ := rfl
  passed := h.passed

theorem counted {n : Nat} (hn : n ≤ 15) : Sound { x with passedOver := n } := ⟨h.front, h.release, h.gate, hn⟩

theorem gateOff : Sound { x with gateTimer := none } := ⟨h.front, h.release, nofun, h.passed⟩

theorem releaseOff (hgrant : x.st.isGranted = false) : Sound { x with releaseTimer := none } :=
  ⟨h.front, hgrant.symm, h.gate, h.passed⟩

theorem tick : Sound x.tick where
  front := h.front
  release := Option.isSome_map.trans h.release
  gate hg := h.gate (Option.isSome_map.symm.trans hg)
  passed := h.passed

end Sound

/-! ### All spurs -/

/-- The law of the three spurs. -/
def AllSound (s : State) : Prop := ∀ i, Sound (s.spurs.get i)

theorem spursSound_iff (s : State) : SpursSound s ↔ AllSound s := by
  unfold SpursSound
  simp only [Ix.forall_all, spurSound_iff]
  rfl

theorem AllSound.of_spurs {s t : State} (hs : AllSound s) (h : t.spurs = s.spurs) : AllSound t := fun i => by
  rw [h]; exact hs i

/-- What leaves alone all that the law of node states reads leaves the spurs alone. -/
theorem AllSound.of_nodePart {s t : State} (hs : AllSound s) (h : Nodes.nodePart t = Nodes.nodePart s) : AllSound t :=
  fun i => by
    have hspur : t.spurs.get i = s.spurs.get i := congrFun (congrArg Nodes.NodePart.spur h) i
    rw [hspur]; exact hs i

theorem AllSound.modSpur {i : Ix} {f : Spur → Spur} {s : State} (hs : AllSound s)
    (hf : Sound (s.spurs.get i) → Sound (f (s.spurs.get i))) : AllSound (s.modSpur i f) := fun j => by
  rw [State.modSpur_spurs_get]
  split
  · next hj => exact hj ▸ hf (hs i)
  · exact hs j

theorem AllSound.map {f : Spur → Spur} {s t : State} (hs : AllSound s) (h : t.spurs = s.spurs.map f)
    (hf : ∀ x, Sound x → Sound (f x)) : AllSound t := fun i => by
  rw [h, Tri.get_map]; exact hf _ (hs i)

end Sys2Proof.Spurs
end

section
/-! The acts of the blocks keep the law of spur states (R4, R39 to R59, R87 to R118, R153 to R157). -/

namespace Sys2Proof.Spurs

open Sys2Proof.Machine Sys2Proof.Claims Sys2Proof.Belt

/-! ### Grants and their ends (R106 to R114) -/

theorem allSound_arbitrated (w : Ix) {s : State} (hs : AllSound s) : AllSound (arbitrated w s) := fun i => by
  rw [arbitrated, Tri.get_ofFn]
  refine (hs i).counted ?_
  split
  · exact Nat.zero_le 15
  · split
    · exact Nat.min_le_left ..
    · exact (hs i).passed

/-- A grant goes to a WAITING spur, whose front record is AT_GATE (R106). -/
theorem allSound_reTest {s : State} (hs : AllSound s) : AllSound s.reTest := by
  change AllSound s.arbitrate
  cases hwin : s.winner (Ix.all.filter s.eligible) with
  | none => simpa [State.arbitrate, hwin] using hs
  | some w =>
    obtain ⟨hwaiting, -, -, -, -, -, r, rest, hlist, -⟩ := (eligible_iff s w).mp (Bookings.eligible_of_winner hwin)
    rw [arbitrate_of_winner hwin, grantSpur_arbitrated hlist, ← routeEffects_eq]
    have hspurs : ((arbitrated w s).routeEffects r.ident r.stray (s.routeChoice r.ident)).spurs = (arbitrated w s).spurs := by
      rw [State.routeEffects_frame]
    refine ((allSound_arbitrated w hs).of_spurs hspurs).modSpur fun h => h.granted ?_ ..
    rw [hspurs, arbitrated, Tri.get_ofFn]
    exact hwaiting

theorem allSound_stickSpur (i : Ix) (d : Nat) {s : State} (hs : AllSound s) : AllSound (s.stickSpur i d) := by
  unfold State.stickSpur
  split
  · next g hg =>
    have hstuck : AllSound ((s.releaseDecision g.decision).modSpur i fun x =>
        { x with st := .blocked, gateTimer := none, releaseTimer := none }) := by
      have hspurs : (s.releaseDecision g.decision).spurs = s.spurs := by rw [State.releaseDecision_frame]
      refine (hs.of_spurs hspurs).modSpur fun h => h.stopped rfl (h.front.gateFirst ?_)
      rw [hspurs, hg]
      exact nofun
    simp only []
    split
    · exact hstuck.of_nodePart (Nodes.nodePart_report ..)
    · exact hstuck
  · exact hs

theorem allSound_enterHalt (c : HaltCause) {s : State} (hs : AllSound s) : AllSound (s.enterHalt c) := by
  by_cases hrun : s.node.state = .run
  · have hcut : AllSound (Nodes.pulsesCut c s) := hs.of_spurs (State.report_spurs ..)
    rw [Nodes.enterHalt_of_run hrun]
    exact allSound_stickSpur _ _ (allSound_stickSpur _ _ (allSound_stickSpur _ _ hcut))
  · rwa [State.enterHalt_of_not_run hrun]

theorem allSound_releaseExpired (i : Ix) {s : State} (hs : AllSound s) :
    AllSound ((s.stickSpur i i.toNat).modSpur i fun x => { x with releaseTimer := none }).reTest := by
  refine allSound_reTest ((allSound_stickSpur i i.toNat hs).modSpur fun h => h.releaseOff ?_)
  rw [Nodes.isGranted_stickSpur]
  simp

/-! ### Exits, changes of P, speed samples (R4, R55, R80) -/

theorem allSound_exitTests {s : State} (hs : AllSound s) : AllSound s.exitTests :=
  hs.of_spurs (by rw [State.exitTests_frame])

theorem allSound_claims {s : State} (hs : AllSound s) : AllSound s.claims :=
  hs.of_spurs (by rw [State.claims_frame])

theorem allSound_dropOverdue {s : State} (hs : AllSound s) : AllSound s.dropOverdue :=
  hs.of_spurs (by rw [State.dropOverdue_frame])

theorem allSound_positionChange {s : State} (hs : AllSound s) : AllSound s.positionChange := by
  have hdue : AllSound s.expireTag.dropOverdue := allSound_dropOverdue (hs.of_nodePart (Nodes.nodePart_expireTag s))
  have hjam : AllSound s.expireTag.dropOverdue.jamTest := by
    unfold State.jamTest
    split
    · exact allSound_enterHalt .jam hdue
    · exact hdue
  refine allSound_reTest (allSound_exitTests (hjam.of_spurs ?_))
  rw [State.divertTests_frame State.testDivert_frame]

theorem allSound_takeSample {s : State} (hs : AllSound s) : AllSound s.takeSample := by
  have hhalt : AllSound (haltOnStall s) := by
    unfold haltOnStall
    split
    · exact allSound_enterHalt .stall hs
    · exact hs
  rw [takeSample_eq]
  refine allSound_reTest (allSound_claims (hhalt.of_spurs ?_))
  rw [State.divertTests_frame State.testArmed_frame]
  rfl

/-! ### The entry eye (R43 to R53) -/

theorem spurs_arrive (stamp : Pos) (tag : Option (BitVec 32)) (s : State) : (s.arrive stamp tag).spurs = s.spurs := by
  unfold State.arrive
  split
  · rw [State.appendEntering_frame, State.reportMissing_frame]
  · rw [State.appendEntering_frame, State.offer_spurs, State.report_spurs]

theorem allSound_entryLeading (e : Edge) {s : State} (hs : AllSound s) : AllSound (s.entryLeading e) := by
  have htag : AllSound s.takeTag.2 := hs.of_nodePart (Nodes.nodePart_takeTag s)
  unfold State.entryLeading
  split
  · exact hs
  split
  · exact hs
  split
  · exact htag.of_nodePart (Nodes.nodePart_report ..)
  · exact allSound_reTest (allSound_exitTests (allSound_dropOverdue (htag.of_spurs (spurs_arrive ..))))

theorem spurs_mismatchReported (t : Tote) (len : Nat) (s : State) : (mismatchReported t len s).spurs = s.spurs := by
  unfold mismatchReported
  split
  · exact State.report_spurs ..
  · rfl

theorem spurs_closeEntering (stamp : Pos) (init : List Tote) (t : Tote) (d : Decision) (s : State) :
    (s.closeEntering stamp init t d).spurs = s.spurs := by
  cases d with
  | pass =>
    rw [closeEntering_pass]
    exact spurs_mismatchReported ..
  | land k =>
    rw [closeEntering_land]
    exact (Nodes.testArmed_spurs ..).trans (spurs_mismatchReported ..)

theorem allSound_entryTrailing (e : Edge) {s : State} (hs : AllSound s) : AllSound (s.entryTrailing e) := by
  unfold State.entryTrailing
  split
  · exact hs
  split
  · split
    · exact allSound_reTest (allSound_claims (hs.of_spurs (spurs_closeEntering ..)))
    · exact hs
  · exact hs

/-! ### Gate eyes (R102 to R112) -/

/-- A WAITING or BLOCKED spur loses its front record and is EMPTY (R105, R115). -/
theorem allSound_loseFront {i : Ix} (d : Nat) {s : State} (hgrant : (s.spurs.get i).st.isGranted = false)
    (hs : AllSound s) : AllSound (s.loseFront i d) := by
  have hlost : AllSound (s.modSpur i fun x => { x with st := .empty, list := x.list.tail }) :=
    hs.modSpur fun h => h.moved hgrant.symm h.front.tail
  unfold State.loseFront
  simp only []
  split
  · exact hlost.of_nodePart (Nodes.nodePart_report ..)
  · exact hlost

/-- The tote at an EMPTY spur's gate is its front record's, or a stray's on an empty list (R103, R104). -/
theorem allSound_toteAtGate {i : Ix} {s : State} (hst : (s.spurs.get i).st = .empty) (hs : AllSound s) :
    AllSound (s.toteAtGate i) := by
  have hgrant : SpurState.waiting.isGranted = (s.spurs.get i).st.isGranted := by rw [hst]; rfl
  unfold State.toteAtGate
  split
  · next r rest hlist =>
    refine hs.modSpur fun h => h.moved hgrant ⟨_, rest, rfl, rfl, ?_⟩
    have htail := h.front.tail
    rwa [hlist] at htail
  · exact (hs.modSpur fun h => h.moved hgrant ⟨_, [], rfl, rfl, nofun⟩).of_nodePart (Nodes.nodePart_report ..)

theorem allSound_gateBlocked (i : Ix) {s : State} (hs : AllSound s) : AllSound (s.gateBlocked i) := by
  unfold State.gateBlocked
  split
  · next hacts =>
    exact allSound_reTest (allSound_toteAtGate (of_decide_eq_true (Bool.and_eq_true_iff.mp hacts).2) hs)
  · exact hs

/-- A grant that ends with its tote gone (R111, R112). -/
theorem allSound_released (i : Ix) {s : State} (hs : AllSound s) : AllSound (s.modSpur i Spur.released) :=
  hs.modSpur fun h => h.stopped rfl h.front.tail

theorem allSound_discardGranted (i : Ix) (g : Grant) (r : SpurRec) (why : ReportKind) (d : Nat) {s : State}
    (hs : AllSound s) : AllSound (s.discardGranted i g r why d) :=
  (allSound_released i (hs.of_spurs (by rw [State.releaseDecision_frame]))).of_nodePart (Nodes.nodePart_report ..)

theorem allSound_insertGranted (i : Ix) (g : Grant) (r : SpurRec) {s : State} (hs : AllSound s) :
    AllSound (s.insertGranted i g r) :=
  allSound_exitTests ((allSound_released i hs).of_spurs (Nodes.testArmed_spurs ..))

theorem allSound_gateReleased (i : Ix) (stamp : Pos) (g : Grant) {s : State} (hs : AllSound s) :
    AllSound (s.gateReleased i stamp g) := by
  unfold State.gateReleased
  split
  · exact hs
  split
  · exact allSound_discardGranted i g _ _ _ hs
  split
  · exact allSound_discardGranted i g _ _ _ hs
  · exact allSound_insertGranted i g _ hs

theorem allSound_gateCleared (i : Ix) (e : Edge) {s : State} (hs : AllSound s) : AllSound (s.gateCleared i e) := by
  unfold State.gateCleared
  split
  · split
    · next hwaiting => exact allSound_loseFront _ (by rw [hwaiting]; rfl) hs
    · exact allSound_reTest (allSound_gateReleased i _ _ hs)
    · exact hs
  · exact hs

/-! ### Confirm eyes (R87 to R91) -/

theorem spurs_landTote (k : Ix) (t : Tote) (rest : List Tote) (s : State) : (s.landTote k t rest).spurs = s.spurs := by
  have hreported : ∀ d (u : State), (reportIf .landed d t.ident.tag t.ident.order u).spurs = u.spurs := fun d u => by
    unfold reportIf; split
    · exact State.report_spurs ..
    · rfl
  by_cases hfull : 8 ≤ (s.bays.get k).landing.length
  · rw [landTote_full hfull]
    exact hreported ..
  · rw [landTote_room (Nat.not_le.mp hfull), State.assemblyLanding_frame]
    exact hreported ..

theorem allSound_confirmBlocked (k : Ix) {s : State} (hs : AllSound s) : AllSound (s.confirmBlocked k) := by
  have hjam : AllSound (s.startChuteJam k) := hs
  unfold State.confirmBlocked
  split
  · exact allSound_reTest (allSound_exitTests (hjam.of_spurs (spurs_landTote ..)))
  · exact hjam.of_nodePart (Nodes.nodePart_landUnexpected ..)

theorem allSound_ownerOf (i : EyeId) (b : Bool) (e : Edge) {s : State} (hs : AllSound s) : AllSound (ownerOf i b e s) := by
  cases i <;> cases b
  · exact allSound_entryTrailing e hs
  · exact allSound_entryLeading e hs
  · exact allSound_gateCleared _ e hs
  · exact allSound_gateBlocked _ hs
  · exact hs.of_nodePart (Nodes.nodePart_confirmCleared ..)
  · exact allSound_confirmBlocked _ hs
  · exact hs.of_nodePart (Nodes.nodePart_frontCleared ..)
  · exact hs

/-! ### Notices and credits (R39, R138 to R148) -/

theorem allSound_trackNotice (i : Ident) {s : State} (hs : AllSound s) : AllSound (s.trackNotice i) := by
  unfold State.trackNotice
  split
  · exact hs.of_nodePart (Nodes.nodePart_report ..)
  · exact allSound_dropOverdue hs

theorem allSound_takeNotice (q : Byte) (i : Ident) {s : State} (hs : AllSound s) : AllSound (s.takeNotice q i) := by
  have hadmitted : AllSound (s.admission q i).1 := hs.of_nodePart (Nodes.nodePart_admission ..)
  unfold State.takeNotice
  simp only []
  split
  · exact allSound_reTest (allSound_trackNotice i hadmitted)
  · exact hadmitted

theorem allSound_takeSync (value : Byte) {s : State} (hs : AllSound s) : AllSound (s.takeSync value) :=
  allSound_reTest (allSound_claims hs)

theorem allSound_takeLocked (g r : Byte) {s : State} (hs : AllSound s) : AllSound (s.takeLocked g r) :=
  have hresync : AllSound (s.reportResync g r) := hs.of_nodePart (Nodes.nodePart_reportResync g r s)
  allSound_reTest (allSound_claims hresync)

/-! ### The node, the clock, resets (R18, R154 to R161) -/

theorem allSound_startNode {s : State} (hs : AllSound s) : AllSound s.startNode :=
  allSound_reTest (hs.map (f := fun x => { x with passedOver := 0 }) rfl fun _ h => h.counted (Nat.zero_le 15))

theorem allSound_resumeNode {s : State} (hs : AllSound s) : AllSound s.resumeNode :=
  allSound_reTest (hs.of_spurs (State.report_spurs ..))

theorem allSound_enterConfig {s : State} (hs : AllSound s) : AllSound s.enterConfig := by
  have hspurs : s.enterConfig.spurs = s.spurs.map Spur.discarded :=
    congrArg (Tri.map Spur.discarded) (State.report_spurs ..)
  exact hs.map hspurs fun _ h => h.stopped (l := []) rfl nofun

theorem allSound_resetPart (s : State) : AllSound s.resetPart := fun i => by
  rw [State.resetPart, show State.reset.spurs = Tri.const Spur.reset from rfl, Tri.get_const]
  exact ⟨nofun, rfl, nofun, Nat.zero_le 15⟩

end Sys2Proof.Spurs
end

section
/-! Every step keeps each spur's state true to its front record and its timers (R31, R101, R110, R113). -/

namespace Sys2Proof.Spurs

open Sys2Proof.Machine Sys2Proof.Belt Sys2Proof.Steps

/-! ### Requests -/

/-- A request that keeps the law of spur states whatever its payload. -/
def SoundHandler (op : Handler) : Prop := ∀ p s, AllSound s → AllSound (op p s).1

theorem soundHandler_of_spurs {op : Handler} (h : ∀ p s, (op p s).1.spurs = s.spurs) : SoundHandler op :=
  fun p s hs => hs.of_spurs (h p s)

theorem soundHandler_of_read {op : Handler} (h : ∀ p s, (op p s).1 = s) : SoundHandler op :=
  soundHandler_of_spurs fun p s => by rw [h]

theorem soundHandler_setParameters : SoundHandler reqSetParameters := soundHandler_of_spurs fun p s => by
  unfold reqSetParameters
  split
  · split
    · rfl
    · rw [writePairs_frame]
  · rfl

theorem soundHandler_routeWrite : SoundHandler reqRouteWrite := soundHandler_of_spurs fun p s => by
  unfold reqRouteWrite
  repeat' split
  all_goals rfl

theorem soundHandler_routeCommit : SoundHandler reqRouteCommit := soundHandler_of_spurs fun p s => by
  unfold reqRouteCommit
  split <;> rfl

theorem soundHandler_counterSetup : SoundHandler reqCounterSetup := soundHandler_of_spurs fun p s => by
  unfold reqCounterSetup
  repeat' split
  all_goals rfl

theorem soundHandler_counterClear : SoundHandler reqCounterClear := soundHandler_of_spurs fun p s => by
  unfold reqCounterClear
  repeat' split
  all_goals rfl

theorem soundHandler_bayClear : SoundHandler reqBayClear := soundHandler_of_spurs fun p s => by
  unfold reqBayClear
  split
  · split
    · rfl
    · split
      · rfl
      · simp only []
        rw [State.takeMany_frame]
  · rfl

theorem soundHandler_spurNotice : SoundHandler reqSpurNotice := fun p s hs => by
  unfold reqSpurNotice
  split
  · exact hs
  split
  · exact hs
  split
  · exact hs
  · exact hs.modSpur fun h => h.moved rfl (h.front.append rfl)

theorem allSound_restoreSpur {i : Ix} {s : State} (hst : (s.spurs.get i).st = .blocked) (hs : AllSound s) :
    AllSound (s.restoreSpur i) := by
  have hgrant : (s.spurs.get i).st.isGranted = false := by rw [hst]; rfl
  unfold State.restoreSpur
  split
  · refine allSound_reTest (hs.modSpur fun h => h.moved hgrant.symm (h.front.gateFirst ?_))
    rw [hst]
    exact nofun
  · exact allSound_loseFront _ hgrant hs

theorem soundHandler_spurRestore : SoundHandler reqSpurRestore := fun p s hs => by
  unfold reqSpurRestore
  split
  · split
    · exact hs
    · split
      · next hblocked => exact allSound_restoreSpur hblocked hs
      · exact hs
  · exact hs

theorem soundHandler_start : SoundHandler reqStart := fun p s hs => by
  unfold reqStart
  split
  · exact hs
  split
  · exact hs
  split
  · exact hs
  split
  · exact hs
  · exact allSound_startNode hs

theorem soundHandler_halt : SoundHandler reqHalt := fun p s hs => by
  unfold reqHalt
  split
  · exact hs
  · split
    · exact hs
    · exact hs
    · exact allSound_reTest (allSound_enterHalt .request hs)

theorem soundHandler_resume : SoundHandler reqResume := fun p s hs => by
  unfold reqResume
  split
  · exact hs
  split
  · exact hs
  split
  · exact hs
  · exact allSound_resumeNode hs

theorem soundHandler_config : SoundHandler reqConfig := fun p s hs => by
  unfold reqConfig
  split
  · exact hs
  split
  · exact hs
  · exact allSound_enterConfig hs

theorem soundHandler_handlerOf (kind : Byte) : SoundHandler (handlerOf kind) := by
  unfold handlerOf
  split
  · exact soundHandler_of_read Totes.reqInquire_state
  · exact soundHandler_setParameters
  · exact soundHandler_of_read Totes.reqReadParameters_state
  · exact soundHandler_routeWrite
  · exact soundHandler_routeCommit
  · exact soundHandler_of_read Totes.reqRouteRead_state
  · exact soundHandler_spurNotice
  · exact soundHandler_spurRestore
  · exact soundHandler_bayClear
  · exact soundHandler_of_read Totes.reqListRead_state
  · exact soundHandler_counterSetup
  · exact soundHandler_of_read Totes.reqCounterRead_state
  · exact soundHandler_counterClear
  · exact soundHandler_start
  · exact soundHandler_halt
  · exact soundHandler_resume
  · exact soundHandler_config
  · exact soundHandler_of_read Totes.reqNodeReset_state
  · exact soundHandler_of_read fun _ _ => rfl

/-! ### Every step -/

/-- Each act of the commands keeps the law of spur states. -/
theorem allSoundIsKept : KeptByCausedActs AllSound where
  wires h hs := hs.of_spurs (by rw [h])
  finish _ hs := hs.of_nodePart (Nodes.nodePart_finish _)
  reset s _ := allSound_resetPart s
  request kind := soundHandler_handlerOf kind
  notice q i _ := allSound_takeNotice q i
  sync value _ := allSound_takeSync value
  locked g r _ := allSound_takeLocked g r
  move _ := allSound_positionChange
  halt c _ _ hs := allSound_reTest (allSound_enterHalt c hs)
  speed _ := allSound_takeSample
  owner i b e _ := allSound_ownerOf i b e
  paddle _ _ hs := hs
  gate _ _ hs := hs.modSpur fun h => h.gateOff
  release i _ := allSound_releaseExpired i
  chime _ _ hs := hs
  jam k _ hs := hs.of_nodePart (Nodes.nodePart_chuteJammed k _)
  lamp _ _ _ hs := hs
  refresh _ hs := hs
  tick _ hs := hs.map rfl fun _ h => h.tick

/-- Settles O53: a spur leaves EMPTY with a tote at its gate, is GRANTED with both timers started, and every end of a grant stops
them; no other act changes a spur's state or the record at its front. -/
theorem stepsKeepSpurStatesSound : Obligations.StepsKeepSpurStatesSound := by
  unfold Obligations.StepsKeepSpurStatesSound
  intro s t hsound hstep
  exact (spursSound_iff t).mpr (allSoundIsKept.step hstep ((spursSound_iff s).mp hsound))

end Sys2Proof.Spurs
end

section
/-! Entering HALT: the pulses stopped and the grants ended, spur by spur (R114, R148, R152, R155). -/

namespace Sys2Proof.Spurs

open Sys2Proof.Machine Sys2Proof.Safety Sys2Proof.Claims

/-! ### The end of one grant with its tote still at the gate (R113, R114) -/

/-- A GRANTED spur BLOCKED with its timers stopped. -/
def stuckSpur (x : Spur) : Spur :=
  if granting x.st = true then { x with st := .blocked, gateTimer := none, releaseTimer := none } else x

/-- The spur holds a grant decided LAND at bay k. -/
def bookedAt (k : Ix) (x : Spur) : Bool := x.st.grant?.any fun g => decide (g.decision = .land k)

/-- SPUR_STUCK for the front record. -/
def reportStuck (detail : Nat) (x : Spur) (s : State) : State :=
  x.list.head?.elim s fun r => s.report .spurStuck detail r.ident.tag r.ident.order

/-- The entries of that report. -/
def stuckEntries (detail : Nat) (x : Spur) : List Report :=
  (x.list.head?.map fun r => ⟨.spurStuck, byte detail, r.ident.tag, r.ident.order⟩).toList

theorem reportStuck_spurs (d : Nat) (x : Spur) (s : State) : (reportStuck d x s).spurs = s.spurs := by
  unfold reportStuck
  cases x.list.head? with
  | none => rfl
  | some r => exact State.report_spurs ..

theorem reportStuck_bays (d : Nat) (x : Spur) (s : State) : (reportStuck d x s).bays = s.bays := by
  unfold reportStuck
  cases x.list.head? with
  | none => rfl
  | some r => exact State.report_bays ..

theorem reportStuck_reports {s : State} (h : s.reports.length < 16) (d : Nat) (x : Spur) :
    (reportStuck d x s).reports = s.reports ++ stuckEntries d x := by
  unfold reportStuck stuckEntries
  cases x.list.head? with
  | none => exact (List.append_nil _).symm
  | some r => exact Entry.report_reports_of_room h ..

theorem stickSpur_of_granted {i : Ix} {s : State} {g : Grant} (hg : (s.spurs.get i).st = .granted g) (d : Nat) :
    s.stickSpur i d = reportStuck d (s.spurs.get i) ((s.releaseDecision g.decision).modSpur i stuckSpur) := by
  have hspurs : (s.releaseDecision g.decision).spurs = s.spurs := by rw [State.releaseDecision_frame]
  have hstuck : (s.releaseDecision g.decision).modSpur i stuckSpur = (s.releaseDecision g.decision).modSpur i fun x =>
      { x with st := .blocked, gateTimer := none, releaseTimer := none } :=
    Belt.modSpur_congr (by rw [hspurs, stuckSpur, hg]; rfl)
  rw [hstuck, State.stickSpur, reportStuck]
  simp only [hg]
  cases (s.spurs.get i).list <;> rfl

theorem granting_iff (st : SpurState) : granting st = true ↔ ∃ g, st = .granted g := by
  cases st <;> simp [granting]

theorem stickSpur_of_not_granting {i : Ix} {s : State} (h : ¬ granting (s.spurs.get i).st = true) (d : Nat) :
    s.stickSpur i d = s := by
  refine Nodes.stickSpur_of_not_granted ?_ d
  revert h
  cases (s.spurs.get i).st <;> simp [granting, SpurState.isGranted]

theorem bookedAt_of_granted {x : Spur} {g : Grant} (h : x.st = .granted g) (k : Ix) :
    bookedAt k x = decide (g.decision = .land k) := by
  rw [bookedAt, h]; rfl

theorem granting_of_bookedAt {k : Ix} {x : Spur} (h : bookedAt k x = true) : granting x.st = true := by
  revert h
  unfold bookedAt
  cases x.st <;> simp [granting, SpurState.grant?]

theorem releaseDecision_bays_get (e : Decision) (k : Ix) (s : State) : (s.releaseDecision e).bays.get k =
    { s.bays.get k with reserved := (s.bays.get k).reserved - if decide (e = .land k) = true then 1 else 0 } := by
  cases e with
  | pass => rfl
  | land j =>
    change (s.release j).bays.get k = _
    rw [State.release, State.modBay_bays_get]
    by_cases hj : k = j
    · simp [hj]
    · simp [hj, Ne.symm hj]

section Stick

variable (i : Ix) (d : Nat) (s : State)

theorem stickSpur_spurs_get (j : Ix) :
    (s.stickSpur i d).spurs.get j = if j = i then stuckSpur (s.spurs.get j) else s.spurs.get j := by
  by_cases hst : granting (s.spurs.get i).st = true
  · obtain ⟨g, hg⟩ := (granting_iff _).mp hst
    rw [stickSpur_of_granted hg, reportStuck_spurs, State.modSpur_spurs_get, State.releaseDecision_frame]
  · rw [stickSpur_of_not_granting hst]
    split
    · next hj => rw [hj, stuckSpur, if_neg hst]
    · rfl

theorem stickSpur_bays_get (k : Ix) : (s.stickSpur i d).bays.get k =
    { s.bays.get k with
      reserved := (s.bays.get k).reserved - if bookedAt k (s.spurs.get i) = true then 1 else 0 } := by
  by_cases hst : granting (s.spurs.get i).st = true
  · obtain ⟨g, hg⟩ := (granting_iff _).mp hst
    rw [stickSpur_of_granted hg, reportStuck_bays, State.modSpur_bays, releaseDecision_bays_get, bookedAt_of_granted hg]
  · rw [stickSpur_of_not_granting hst, if_neg (mt granting_of_bookedAt hst)]; rfl

theorem stickSpur_reports {s : State} (h : s.reports.length < 16) : (s.stickSpur i d).reports =
    s.reports ++ if granting (s.spurs.get i).st = true then stuckEntries d (s.spurs.get i) else [] := by
  by_cases hst : granting (s.spurs.get i).st = true
  · obtain ⟨g, hg⟩ := (granting_iff _).mp hst
    have hreports : ((s.releaseDecision g.decision).modSpur i stuckSpur).reports = s.reports := by
      rw [State.modSpur_reports, State.releaseDecision_frame]
    rw [stickSpur_of_granted hg, reportStuck_reports (hreports ▸ h), hreports, if_pos hst]
  · rw [stickSpur_of_not_granting hst, if_neg hst, List.append_nil]

end Stick

/-! ### The grants of several spurs (R155) -/

/-- The grants of the spurs named end one after another. -/
def endGrants (l : List Ix) (s : State) : State := l.foldl (fun u i => u.stickSpur i (3 + i.toNat)) s

theorem enterHalt_of_run {s : State} (h : s.node.state = .run) (c : HaltCause) :
    s.enterHalt c = endGrants Ix.all (Nodes.pulsesCut c s) :=
  Nodes.enterHalt_of_run h c

theorem endGrants_cons (i : Ix) (l : List Ix) (s : State) :
    endGrants (i :: l) s = endGrants l (s.stickSpur i (3 + i.toNat)) := rfl

theorem stickSpur_spurs_get_of_mem {i j : Ix} {l : List Ix} (hi : i ∉ l) (hj : j ∈ l) (d : Nat) (s : State) :
    (s.stickSpur i d).spurs.get j = s.spurs.get j := by
  rw [stickSpur_spurs_get, if_neg (ne_of_mem_of_not_mem hj hi)]

theorem endGrants_spurs_get {l : List Ix} (hl : l.Nodup) (j : Ix) (s : State) :
    (endGrants l s).spurs.get j = if j ∈ l then stuckSpur (s.spurs.get j) else s.spurs.get j := by
  induction l generalizing s with
  | nil => rfl
  | cons i l ih =>
    obtain ⟨hi, hnodup⟩ := List.nodup_cons.mp hl
    rw [endGrants_cons, ih hnodup, stickSpur_spurs_get]
    by_cases hj : j = i
    · simp [hj, hi]
    · simp [hj]

theorem endGrants_bays_get {l : List Ix} (hl : l.Nodup) (k : Ix) (s : State) : (endGrants l s).bays.get k =
    { s.bays.get k with
      reserved := (s.bays.get k).reserved - (l.filter fun i => bookedAt k (s.spurs.get i)).length } := by
  induction l generalizing s with
  | nil => rfl
  | cons i l ih =>
    obtain ⟨hi, hnodup⟩ := List.nodup_cons.mp hl
    have hrest : (l.filter fun j => bookedAt k ((s.stickSpur i (3 + i.toNat)).spurs.get j)) =
        l.filter fun j => bookedAt k (s.spurs.get j) :=
      List.filter_congr fun j hj => by rw [stickSpur_spurs_get_of_mem hi hj]
    rw [endGrants_cons, ih hnodup, hrest, stickSpur_bays_get, List.filter_cons, Nat.sub_sub]
    split
    · rw [List.length_cons, Nat.add_comm]
    · rw [Nat.zero_add]

theorem length_stuckEntries_le (d : Nat) (x : Spur) : (stuckEntries d x).length ≤ 1 := by
  unfold stuckEntries
  cases x.list.head? <;> simp

theorem endGrants_reports {l : List Ix} (hl : l.Nodup) {s : State} (h : s.reports.length + l.length ≤ 16) :
    (endGrants l s).reports = s.reports ++
      (l.filter fun i => granting (s.spurs.get i).st).flatMap fun i => stuckEntries (3 + i.toNat) (s.spurs.get i) := by
  induction l generalizing s with
  | nil => exact (List.append_nil _).symm
  | cons i l ih =>
    obtain ⟨hi, hnodup⟩ := List.nodup_cons.mp hl
    rw [List.length_cons] at h
    have hfirst := stickSpur_reports i (3 + i.toNat) (s := s) (by omega)
    have hroom : (s.stickSpur i (3 + i.toNat)).reports.length + l.length ≤ 16 := by
      have hone := length_stuckEntries_le (3 + i.toNat) (s.spurs.get i)
      rw [hfirst, List.length_append]
      split
      · omega
      · rw [List.length_nil]; omega
    have hfilter : (l.filter fun j => granting ((s.stickSpur i (3 + i.toNat)).spurs.get j).st) =
        l.filter fun j => granting (s.spurs.get j).st :=
      List.filter_congr fun j hj => by rw [stickSpur_spurs_get_of_mem hi hj]
    have hentries : ((l.filter fun j => granting (s.spurs.get j).st).flatMap fun j =>
        stuckEntries (3 + j.toNat) ((s.stickSpur i (3 + i.toNat)).spurs.get j)) =
        (l.filter fun j => granting (s.spurs.get j).st).flatMap fun j => stuckEntries (3 + j.toNat) (s.spurs.get j) :=
      List.flatMap_congr fun j hj => by rw [stickSpur_spurs_get_of_mem hi (List.mem_of_mem_filter hj)]
    rw [endGrants_cons, ih hnodup hroom, hfilter, hentries, hfirst, List.append_assoc, List.filter_cons]
    split <;> rfl

/-! ### Entering HALT (R155) -/

theorem nodup_all : Ix.all.Nodup := by decide

theorem pulsesCut_spurs (c : HaltCause) (s : State) : (Nodes.pulsesCut c s).spurs = s.spurs := State.report_spurs ..

theorem pulsesCut_bays_get (c : HaltCause) (s : State) (k : Ix) :
    (Nodes.pulsesCut c s).bays.get k = { s.bays.get k with paddle := none } := by
  unfold Nodes.pulsesCut
  rw [Tri.get_map, State.report_bays]
  rfl

theorem pulsesCut_reports {s : State} (h : s.reports.length < 16) (c : HaltCause) :
    (Nodes.pulsesCut c s).reports = s.reports ++ [⟨.halted, causeCode c, 0, 0⟩] := by
  rw [← Totes.byte_causeCode]
  exact Entry.report_reports_of_room (s := { s with node := { s.node with state := .halt, cause := c } }) h ..

section Halt

variable {s : State} (hrun : s.node.state = .run) (c : HaltCause)

include hrun

theorem enterHalt_spurs_get (i : Ix) : (s.enterHalt c).spurs.get i = stuckSpur (s.spurs.get i) := by
  rw [enterHalt_of_run hrun, endGrants_spurs_get nodup_all, if_pos (Ix.mem_all i), pulsesCut_spurs]

theorem enterHalt_bays_get (k : Ix) : (s.enterHalt c).bays.get k =
    { s.bays.get k with paddle := none, reserved := (s.bays.get k).reserved - landGrants k s } := by
  rw [enterHalt_of_run hrun, endGrants_bays_get nodup_all, pulsesCut_bays_get, pulsesCut_spurs]
  rfl

theorem enterHalt_reports (hroom : s.reports.length ≤ 12) : (s.enterHalt c).reports =
    s.reports ++ ⟨.halted, causeCode c, 0, 0⟩ :: (Ix.all.filter fun i => granting (s.spurs.get i).st).flatMap fun i =>
      stuckEntries (3 + i.toNat) (s.spurs.get i) := by
  have hcut := pulsesCut_reports (show s.reports.length < 16 by omega) c
  have hlength : (Nodes.pulsesCut c s).reports.length + Ix.all.length ≤ 16 := by
    rw [hcut, List.length_append]
    change s.reports.length + 1 + 3 ≤ 16
    omega
  rw [enterHalt_of_run hrun, endGrants_reports nodup_all hlength, hcut, pulsesCut_spurs, List.append_assoc]
  rfl

theorem enterHalt_eq : s.enterHalt c = { s with
    node := { s.node with state := .halt, cause := c }
    bays := (s.enterHalt c).bays
    spurs := (s.enterHalt c).spurs
    reports := (s.enterHalt c).reports
    dropped := (s.enterHalt c).dropped } := by
  have hnode : (s.enterHalt c).node = { s.node with state := .halt, cause := c } := by
    rw [State.enterHalt_node, if_pos hrun]
  rw [← hnode]
  exact State.enterHalt_frame c s

end Halt

theorem beltRun_of_not_run {s : State} (h : s.node.state ≠ .run) : s.beltRun = false := by
  simp [State.beltRun, h]

/-- Settles O13: the halt first cuts the pulses, then ends the grants one after another, none of which reads what another left. -/
theorem enteringHaltStopsWhatPushes : Obligations.EnteringHaltStopsWhatPushes := by
  unfold Obligations.EnteringHaltStopsWhatPushes
  refine ⟨fun s c hrun => ?_, fun s c => State.enterHalt_of_not_run, fun s => rfl⟩
  refine ⟨enterHalt_eq hrun c, beltRun_of_not_run (State.enterHalt_not_run c s), fun k => ?_, enterHalt_spurs_get hrun c,
    enterHalt_reports hrun c⟩
  have hbay := enterHalt_bays_get hrun c k
  exact ⟨congrArg Bay.paddle hbay, hbay⟩

end Sys2Proof.Spurs
end

section
/-! SPUR NOTICE, SPUR RESTORE and START as requests (R100, R108, R115, R135, R154, R174). -/

namespace Sys2Proof.Spurs

open Sys2Proof.Machine Sys2Proof.Claims

/-! ### The LEN of a SPUR NOTICE (R100, R174) -/

theorem decodeSpurNotice_of_unfit {p : List Byte} {attr : Byte} (hattr : p[9]? = some attr)
    (h : p.length = 10 ∧ attr.getLsbD 2 = true ∨ p.length = 13 ∧ attr.getLsbD 2 = false) (address : Nat) :
    decodeSpurNotice address p = none := by
  rcases h with ⟨hlen, hgroup⟩ | ⟨hlen, hgroup⟩
  · match p, hlen with
    | [_, _, _, _, _, _, _, _, _, _], _ =>
      obtain rfl := Option.some.inj hattr
      rw [decodeSpurNotice, if_pos hgroup]
  · match p, hlen with
    | [_, _, _, _, _, _, _, _, _, _, _, _, _], _ =>
      obtain rfl := Option.some.inj hattr
      rw [decodeSpurNotice, if_neg (Bool.eq_false_iff.mp hgroup)]

/-! ### The refusals of R100, in their order -/

section Refusal

variable {s : State} {i : Ix}

theorem spurRefusal_of_closed (h : s.node.state = .config ∨ (s.params.spur.get i).enable ≠ 1) (d : Ident) :
    s.spurRefusal i d = some [0x03, nodeCode s.node.state, 0xFF] := by
  rw [State.spurRefusal, if_pos (h.imp_right fun hoff => by simp [Params.spurEnabled, hoff]), ← Belt.byte_code]
  rfl

variable (hopen : s.node.state ≠ .config) (henable : (s.params.spur.get i).enable = 1)

include hopen henable

theorem spurRefusal_of_open (d : Ident) : s.spurRefusal i d =
    if 6 ≤ (s.spurs.get i).list.length then some [0x06, byte i.toNat, 0xFF]
    else if s.tagAnnounced d.tag = true then some [0x07, byte i.toNat, 0xFF] else none :=
  if_neg (not_or.mpr ⟨hopen, by simp [Params.spurEnabled, henable]⟩)

theorem spurTakes_iff (hroom : (s.spurs.get i).list.length < 6) (d : Ident) :
    spurTakes i d s ↔ s.tagAnnounced d.tag = false := by
  rw [← Bool.not_eq_true, Entry.tagAnnounced_iff, spurTakes]
  constructor
  · rintro ⟨-, -, -, hnew⟩ ⟨hz, ⟨n, hn, htag⟩ | ⟨j, r, hr, htag⟩⟩
    · exact (hnew hz).1 n hn htag
    · exact (hnew hz).2 j r hr htag
  · intro hnew
    exact ⟨hopen, henable, hroom, fun hz =>
      ⟨fun n hn htag => hnew ⟨hz, .inl ⟨n, hn, htag⟩⟩, fun j r hr htag => hnew ⟨hz, .inr ⟨j, r, hr, htag⟩⟩⟩⟩

end Refusal

theorem spurRefusal_of_takes {s : State} {i : Ix} {d : Ident} (h : spurTakes i d s) : s.spurRefusal i d = none := by
  obtain ⟨hopen, henable, hroom, -⟩ := id h
  have hnew := (spurTakes_iff hopen henable hroom d).mp h
  rw [spurRefusal_of_open hopen henable, if_neg (Nat.not_le.mpr hroom), hnew]
  rfl

/-! ### SPUR NOTICE (R100) -/

section Notice

variable {s : State} {p : List Byte}

theorem reqSpurNotice_of_unfit (h : decodeSpurNotice s.node.address p = none) :
    reqSpurNotice p s = (s, [0x02, byte p.length, 0xFF]) := by
  simp only [reqSpurNotice, h]
  rfl

variable {sp : Byte} {d : Ident} (h : decodeSpurNotice s.node.address p = some (sp, d))

include h

theorem reqSpurNotice_of_no_spur (hsp : 3 ≤ sp.toNat) : reqSpurNotice p s = (s, [0x0A, sp, 0xFF]) := by
  simp only [reqSpurNotice, h, Lanes.ofNat?_of_three_le hsp]
  rfl

variable {i : Ix} (hsp : sp.toNat = i.toNat)

include hsp

theorem reqSpurNotice_of_refused {r : List Byte} (hr : s.spurRefusal i d = some r) : reqSpurNotice p s = (s, r) := by
  simp only [reqSpurNotice, h, hsp, Ix.ofNat?_toNat, hr]

theorem reqSpurNotice_of_taken (hr : s.spurRefusal i d = none) : reqSpurNotice p s =
    (s.modSpur i fun x => { x with list := x.list ++ [⟨d, .announced, false⟩] },
      [0x00, byte ((s.spurs.get i).list.length + 1)]) := by
  simp only [reqSpurNotice, h, hsp, Ix.ofNat?_toNat, hr, State.modSpur_spurs_get, if_true, List.length_append]
  rfl

end Notice

/-! ### SPUR RESTORE (R115) -/

theorem byte_spurCode (st : SpurState) : byte st.code = spurCode st := by cases st <;> rfl

theorem loseFront_of_cons {i : Ix} {s : State} {r : SpurRec} {rest : List SpurRec}
    (h : (s.spurs.get i).list = r :: rest) (d : Nat) : s.loseFront i d =
      (s.modSpur i fun x => { x with st := .empty, list := rest }).report .spurLost d r.ident.tag r.ident.order := by
  have hmod : (s.modSpur i fun x => { x with st := .empty, list := x.list.tail }) =
      s.modSpur i fun x => { x with st := .empty, list := rest } := Belt.modSpur_congr (by rw [h]; rfl)
  simp only [State.loseFront, h, hmod]

section Restore

variable {s : State} {sp : Byte}

theorem reqSpurRestore_of_no_spur (hsp : 3 ≤ sp.toNat) : reqSpurRestore [sp] s = (s, [0x0A, sp, 0xFF]) := by
  simp only [reqSpurRestore, Lanes.ofNat?_of_three_le hsp]
  rfl

variable {i : Ix} (hsp : sp.toNat = i.toNat)

include hsp

theorem reqSpurRestore_of_not_blocked (hst : (s.spurs.get i).st ≠ .blocked) :
    reqSpurRestore [sp] s = (s, [0x03, nodeCode s.node.state, 0xFF]) := by
  simp only [reqSpurRestore, hsp, Ix.ofNat?_toNat, if_neg hst, ← Belt.byte_code]
  rfl

variable (hst : (s.spurs.get i).st = .blocked)

include hst

theorem reqSpurRestore_of_blocked : reqSpurRestore [sp] s =
    (s.restoreSpur i, [0x00, spurCode ((s.restoreSpur i).spurs.get i).st]) := by
  simp only [reqSpurRestore, hsp, Ix.ofNat?_toNat, if_pos hst, ← byte_spurCode]
  rfl

/-- A tote at the gate keeps its record, and the spur may be granted at once. -/
theorem reqSpurRestore_of_gate_blocked (hgate : (s.eyes.gate.get i).blocked = true) : reqSpurRestore [sp] s =
    ((s.modSpur i fun x => { x with st := .waiting }).reTest,
      [0x00, spurCode ((s.modSpur i fun x => { x with st := .waiting }).reTest.spurs.get i).st]) := by
  rw [reqSpurRestore_of_blocked hsp hst, State.restoreSpur, if_pos hgate]

theorem reqSpurRestore_of_gate_clear {r : SpurRec} {rest : List SpurRec} (hgate : (s.eyes.gate.get i).blocked = false)
    (hlist : (s.spurs.get i).list = r :: rest) : reqSpurRestore [sp] s =
      ((s.modSpur i fun x => { x with st := .empty, list := rest }).report .spurLost (3 + i.toNat) r.ident.tag r.ident.order,
        [0x00, 0x00]) := by
  rw [reqSpurRestore_of_blocked hsp hst, State.restoreSpur, if_neg (by simp [hgate]), loseFront_of_cons hlist,
    State.report_spurs, State.modSpur_spurs_get, if_pos rfl]
  rfl

end Restore

/-- Settles O20: each case of the two requests is its handler's, delivered. -/
theorem spurRequestsAnnounceAndRestore : Obligations.SpurRequestsAnnounceAndRestore := by
  unfold Obligations.SpurRequestsAnnounceAndRestore
  intro q s hq s'
  refine ⟨fun sp d i hd hsp htakes => ?_, fun sp d i hd hsp => ⟨fun hclosed => ?_, fun hopen henable hfull => ?_,
    fun hopen henable hroom hno => ?_⟩, fun attr hattr hlen => ?_, fun sp d hd hsp => ?_,
    fun sp i hp hsp hst => ⟨fun hgate => ?_, fun hgate r rest hlist => ?_⟩, fun sp i hp hsp hst => ?_, fun sp hp hsp => ?_⟩
  · exact Routes.answer_of_handler 0x16 hq (reqSpurNotice_of_taken hd hsp (spurRefusal_of_takes htakes))
  · exact Routes.answer_of_handler 0x16 hq (reqSpurNotice_of_refused hd hsp (spurRefusal_of_closed hclosed d))
  · refine Routes.answer_of_handler 0x16 hq (reqSpurNotice_of_refused hd hsp ?_)
    rw [spurRefusal_of_open hopen henable, if_pos hfull]
  · refine Routes.answer_of_handler 0x16 hq (reqSpurNotice_of_refused hd hsp ?_)
    have hknown : s'.tagAnnounced d.tag = true := by
      rwa [spurTakes_iff hopen henable hroom, Bool.not_eq_false] at hno
    rw [spurRefusal_of_open hopen henable, if_neg (Nat.not_le.mpr hroom), if_pos hknown]
  · exact Routes.answer_of_handler 0x16 hq (reqSpurNotice_of_unfit (decodeSpurNotice_of_unfit hattr hlen _))
  · exact Routes.answer_of_handler 0x16 hq (reqSpurNotice_of_no_spur hd hsp)
  · exact Routes.answer_of_handler 0x17 hq (hp ▸ reqSpurRestore_of_gate_blocked hsp hst hgate)
  · exact Routes.answer_of_handler 0x17 hq (hp ▸ reqSpurRestore_of_gate_clear hsp hst hgate hlist)
  · exact Routes.answer_of_handler 0x17 hq (hp ▸ reqSpurRestore_of_not_blocked hsp hst)
  · exact Routes.answer_of_handler 0x17 hq (hp ▸ reqSpurRestore_of_no_spur hsp)

/-! ### START (R154) -/

theorem startNode_state (s : State) : s.startNode.node.state = .run := by
  rw [State.startNode, State.reTest_frame]

section Start

variable {s : State}

theorem reqStart_of_not_config (h : s.node.state ≠ .config) : reqStart [] s = (s, [0x03, nodeCode s.node.state, 0xFF]) := by
  rw [reqStart, if_neg (not_not.mpr rfl), if_pos h, ← Belt.byte_code]
  rfl

variable (hconfig : s.node.state = .config)

include hconfig

theorem reqStart_of_estop (h : s.node.estopActive = true) : reqStart [] s = (s, [0x09, 0xFF, 0xFF]) := by
  rw [reqStart, if_neg (not_not.mpr rfl), if_neg (not_not.mpr hconfig), if_pos h]
  rfl

variable (hestop : s.node.estopActive = false)

include hestop

theorem reqStart_of_fault {f : SetupFault} (h : s.params.setupFault = some f) : reqStart [] s =
    (s, [0x05, byte f.constraint, byte (16 * (f.spur.elim 15 Ix.toNat) + f.bay.elim 15 Ix.toNat)]) := by
  simp only [reqStart, hconfig, hestop, h]
  rfl

theorem reqStart_of_sound (h : s.params.setupFault = none) : reqStart [] s = (s.startNode, [0x00, 0x01]) := by
  simp only [reqStart, hconfig, hestop, h, startNode_state]
  rfl

end Start

/-- Settles O24: the tests of START in their order, and the start where all pass. -/
theorem startTakesTheNodeIntoRun : Obligations.StartTakesTheNodeIntoRun := by
  unfold Obligations.StartTakesTheNodeIntoRun
  intro q s hq hp s'
  refine ⟨fun hconfig hestop hsetup => ?_, fun hstate => ?_, fun hconfig hestop => ?_, fun f hconfig hestop hsetup => ?_⟩
  · exact Routes.answer_of_handler 0x1D hq (by rw [hp]; exact reqStart_of_sound hconfig hestop hsetup)
  · exact Routes.answer_of_handler 0x1D hq (by rw [hp, reqStart_of_not_config hstate])
  · exact Routes.answer_of_handler 0x1D hq (by rw [hp, reqStart_of_estop hconfig hestop])
  · exact Routes.answer_of_handler 0x1D hq (by rw [hp, reqStart_of_fault hconfig hestop hsetup])

end Sys2Proof.Spurs
end

section
/-! Every step is a run of acts, each in the state it needs: an expiry acts where its timer is due (R18) and a halt has its cause
(R155). KeptByActs and KeptByCausedActs ask that a lamp step at any moment keeps the law; the law of R130 breaks where a lamp
without a ready order is stepped, though no command brings such a step. -/

namespace Sys2Proof.Steps

open Sys2Proof.Machine Sys2Proof.Claims Sys2Proof.Belt

/-- One act of those the commands and the sample period are made of. -/
inductive Act : State → State → Prop
  | wires {s t : State} (h : WiresOnly s t) : Act s t
  | finish (s : State) : Act s s.finish
  | reset (s : State) : Act s s.resetPart
  | request (kind : Byte) (payload : List Byte) (s : State) : Act s (handlerOf kind payload s).1
  | notice (q : Byte) (i : Ident) (s : State) : Act s (s.takeNotice q i)
  | sync (value : Byte) (s : State) : Act s (s.takeSync value)
  | locked (g r : Byte) (s : State) : Act s (s.takeLocked g r)
  | move (s : State) : Act s s.positionChange
  | halt {c : HaltCause} (cause : c ≠ .none) (s : State) : Act s (s.enterHalt c).reTest
  | speed (s : State) : Act s s.takeSample
  | owner (i : EyeId) (b : Bool) (e : Edge) (s : State) : Act s (ownerOf i b e s)
  | paddle {k : Ix} {s : State} (due : (s.bays.get k).paddle = some 0) : Act s (s.modBay k fun b => { b with paddle := none })
  | gate {i : Ix} {s : State} (due : (s.spurs.get i).gateTimer = some 0) :
      Act s (s.modSpur i fun x => { x with gateTimer := none })
  | release {i : Ix} {s : State} (due : (s.spurs.get i).releaseTimer = some 0) :
      Act s ((s.stickSpur i i.toNat).modSpur i fun x => { x with releaseTimer := none }).reTest
  | chime {k : Ix} {s : State} (due : (s.bays.get k).chime = some 0) : Act s (s.modBay k fun b => { b with chime := none })
  | jam {k : Ix} {s : State} (due : (s.bays.get k).chuteJam = some 0) : Act s (s.chuteJammed k)
  | lamp {k : Ix} {s : State} (due : (s.bays.get k).lampTimer = some 0) : Act s (s.modBay k (Bay.lampStep s.params))
  | refresh (s : State) :
      Act s { s with credit := { s.credit.request 1 with refresh := some Config.creditRefreshMs } }
  | tick (s : State) : Act s s.tick

/-- Acts one after another. -/
def Run : State → State → Prop := Relation.ReflTransGen Act

namespace Run

variable {r s : State} (h : Run r s)

include h

theorem act {t : State} (ha : Act s t) : Run r t := Relation.ReflTransGen.tail h ha

theorem wires {t : State} (hw : WiresOnly s t) : Run r t := h.act (.wires hw)

theorem finish : Run r s.finish := h.act (.finish s)

theorem request (kind : Byte) (payload : List Byte) : Run r (handlerOf kind payload s).1 := h.act (.request kind payload s)

/-! ### Requests and frames -/

theorem frameArrives (q : Port) : Run r (s.frameArrives q) := h.wires (wiresOnly_frameArrives q s)

theorem forward (q : Port) (f : Frame) : Run r (s.forward q f) := h.wires (wiresOnly_forward q f s)

theorem offerDrop (q : Port) : Run r (s.offerDrop q) := h.wires rfl

theorem serve (kind : Byte) (q : Request) : Run r (s.serve (handlerOf kind) kind q) := by
  unfold State.serve
  split
  · exact h.offerDrop q.port
  · exact (h.request kind q.payload).wires rfl

theorem broadcastRequest (kind : Byte) (q : Request) : Run r (s.broadcastRequest (handlerOf kind) kind q) := by
  unfold State.broadcastRequest
  split
  · exact h.offerDrop .D
  · refine forward ?_ ..
    split
    · exact h.request kind q.payload
    · exact h

theorem requestArrives (kind : Byte) (q : Request) : Run r (s.requestArrives (handlerOf kind) kind q) := by
  have ha := h.frameArrives q.port
  unfold State.requestArrives
  simp only []
  split
  · exact ha.wires rfl
  · split
    · exact ha.broadcastRequest kind q
    · exact ha.serve kind q

theorem noticeFrameIn (payload : List Byte) : Run r (s.noticeFrameIn payload) := by
  unfold State.noticeFrameIn
  split
  · exact h.act (.notice ..)
  · exact h.offerDrop .U

theorem creditFrameIn (payload : List Byte) : Run r (s.creditFrameIn payload) := by
  unfold State.creditFrameIn
  split
  · split
    · exact h.act (.sync ..)
    · exact h.act (.locked ..)
    · exact h.offerDrop .D
  · exact h.offerDrop .D

/-- A frame whose check holds, by its address, port and kind: the table of R166. -/
theorem deliver (q : Port) (f : Frame) : Run r (s.deliver q f) := by
  unfold State.deliver
  simp only []
  split
  · split
    · exact h.serve f.kind _
    · exact h.offerDrop q
  split
  · cases q with
    | U => exact h.offerDrop .U
    | D => exact h.forward .U f
  split
  · cases q with
    | U =>
      simp only []
      split
      · exact h.noticeFrameIn f.payload
      · exact h.offerDrop .U
    | D =>
      simp only []
      split
      · exact h.creditFrameIn f.payload
      · exact h.offerDrop .D
  split
  · exact h.broadcastRequest f.kind _
  · exact h.forward q.other f

theorem wholeFrame (q : Port) (f : Frame) : Run r (s.wholeFrame q f) := by
  unfold State.wholeFrame
  simp only []
  split
  · exact (h.frameArrives q).wires rfl
  · exact (h.frameArrives q).deliver q f

theorem noticeArrives (payload : List Byte) : Run r (s.noticeArrives payload) := by
  unfold State.noticeArrives
  split
  · exact h.wires rfl
  · exact h.noticeFrameIn payload

theorem lineChar (q : Port) (c : LineChar) : Run r (s.lineChar q c) := by
  have hrx : Run r (s.modPort q fun y => { y with rx := (rxChar (s.lines.get q).rx c).1 }) := h.wires rfl
  unfold State.lineChar
  simp only []
  split
  · exact hrx
  · exact hrx.wires rfl
  · exact (hrx.deliver ..).finish

theorem lineChars (q : Port) (cs : List LineChar) : Run r (cs.foldl (State.lineChar q) s) := by
  induction cs generalizing s with
  | nil => exact h
  | cons c cs ih => exact ih (h.lineChar q c)

theorem tagChars (cs : List TagChar) : Run r (cs.foldl State.tagChar s) := by
  induction cs generalizing s with
  | nil => exact h
  | cons c cs ih => exact ih (h.wires (wiresOnly_tagChar c s))

/-! ### Encoder samples, the emergency stop, edges and resets -/

theorem encoderSample (now : Bool × Bool) : Run r (s.encoderSample now) := by
  have hpair : Run r (withPair now s) := h.wires rfl
  have hplaced : ∀ q, Run r { withPair now s with pos := q } := fun _ => hpair.wires rfl
  unfold State.encoderSample
  simp only []
  split
  · exact hpair
  · split
    · unfold State.forwardTransition
      split
      · exact (hplaced _).act (.move _)
      · exact hplaced _
    · unfold State.reverseTransition
      split
      · exact (hplaced _).act (.move _)
      · exact hplaced _
    · have hcounted : Run r (countedInvalid (withPair now s)) := hpair.wires rfl
      refine (invalidTransition_eq (withPair now s)).symm ▸ ?_
      split
      · exact hcounted.act (.halt (c := .encoder) nofun _)
      · exact hcounted
    · exact hpair

theorem eStopAssertion : GoesOn (Run r) (execEStopAssertion s) := by
  have hset : Run r { s with node := { s.node with estopActive := true, estopCount := 0 } } := h.wires rfl
  refine ⟨_, rfl, ?_⟩
  split
  · exact h
  · split
    · exact (hset.act (.halt (c := .eStop) nofun _)).finish
    · exact hset.finish

theorem eStopRelease : GoesOn (Run r) (execEStopRelease s) := by
  refine ⟨_, rfl, ?_⟩
  split
  · exact finish (h.wires rfl)
  · exact h

theorem edge (i : EyeId) (b : Bool) : GoesOn (Run r) (Machine.exec (edgeOf i b) s) := by
  by_cases hno : noEdge i b s
  · exact ⟨s, by rw [exec_edgeOf, edge_of_noEdge hno], h⟩
  · obtain ⟨e, u, hu⟩ := exists_edgeTaken hno
    rw [exec_of_edgeTaken hu]
    exact ⟨_, rfl, ((h.wires (wiresOnly_edgeTaken hu)).act (.owner ..)).finish⟩

theorem frameSent (q : Port) : GoesOn (Run r) (execFrameSent q s) := by
  refine ⟨_, rfl, ?_⟩
  split
  · exact h
  · split
    · exact h.act (.reset s)
    · exact finish (h.wires rfl)

theorem nodeResetTakesEffect (q : Port) : GoesOn (Run r) (execNodeResetTakesEffect q s) := by
  refine ⟨_, rfl, ?_⟩
  split
  · exact h.act (.reset s)
  · exact h

theorem unknownKindRequest (kind : Byte) (q : Request) : GoesOn (Run r) (execUnknownKindRequest kind q s) := by
  refine ⟨_, rfl, ?_⟩
  split
  · exact (h.requestArrives kind q).finish
  · exact ((h.frameArrives q.port).offerDrop q.port).finish

/-! ### The commands -/

theorem finished : GoesOn (Run r) (.next s.finish) := ⟨_, rfl, h.finish⟩

theorem requested (kind : Byte) (q : Request) : GoesOn (Run r) (.next (s.requestArrives (handlerOf kind) kind q).finish) :=
  (h.requestArrives kind q).finished

/-- An expiry acts where its timer is due, and elsewhere changes nothing (R18). -/
theorem onExpiry {timer : Timer} {f : State → State} (hact : timer = some 0 → Act s (f s)) :
    GoesOn (Run r) (s.onExpiry timer f) := by
  by_cases hdue : timer = some 0
  · exact ⟨_, State.onExpiry_of_due hdue f s, (h.act (hact hdue)).finish⟩
  · exact ⟨s, State.onExpiry_of_not_due hdue f s, h⟩

theorem exec (c : Instr) : GoesOn (Run r) (Machine.exec c s) := by
  cases c with
  | powerOn | resetPin => exact ⟨_, rfl, h.act (.reset s)⟩
  | inquire q => exact h.requested 0x10 q
  | setParameters q => exact h.requested 0x11 q
  | readParameters q => exact h.requested 0x12 q
  | routeWrite q => exact h.requested 0x13 q
  | routeCommit q => exact h.requested 0x14 q
  | routeRead q => exact h.requested 0x15 q
  | spurNotice q => exact h.requested 0x16 q
  | spurRestore q => exact h.requested 0x17 q
  | bayClear q => exact h.requested 0x18 q
  | listRead q => exact h.requested 0x19 q
  | counterSetup q => exact h.requested 0x1A q
  | counterRead q => exact h.requested 0x1B q
  | counterClear q => exact h.requested 0x1C q
  | start q => exact h.requested 0x1D q
  | halt q => exact h.requested 0x1E q
  | resume q => exact h.requested 0x1F q
  | config q => exact h.requested 0x20 q
  | nodeReset q => exact h.requested 0x21 q
  | nodeResetTakesEffect q => exact h.nodeResetTakesEffect q
  | unknownKindRequest kind q => exact h.unknownKindRequest kind q
  | notice payload => exact ((h.frameArrives .U).noticeArrives payload).finished
  | creditSync value => exact ((h.frameArrives .D).act (.sync value _)).finished
  | creditLocked g r => exact ((h.frameArrives .D).act (.locked g r _)).finished
  | frameForward q f | frameDrop q f => exact (h.wholeFrame q f).finished
  | frameAbandon q cs => exact (h.lineChars q cs).finished
  | tagRead cs | badTagRead cs => exact (h.tagChars cs).finished
  | encoderTransition a b => exact (h.encoderSample (a, b)).finished
  | entryEyeBlocked => exact h.edge .entry true
  | entryEyeClear => exact h.edge .entry false
  | gateEyeBlocked i => exact h.edge (.gate i) true
  | gateEyeClear i => exact h.edge (.gate i) false
  | confirmEyeBlocked k => exact h.edge (.confirm k) true
  | confirmEyeClear k => exact h.edge (.confirm k) false
  | frontEyeBlocked k => exact h.edge (.front k) true
  | frontEyeClear k => exact h.edge (.front k) false
  | eStopAssertion => exact h.eStopAssertion
  | eStopRelease => exact h.eStopRelease
  | speedSample => exact (h.act (.speed s)).finished
  | paddlePulseExpiry k => exact h.onExpiry (Act.paddle (k := k))
  | gatePulseExpiry i => exact h.onExpiry (Act.gate (i := i))
  | releaseTimerExpiry i =>
    exact h.onExpiry
      (f := fun x => ((x.stickSpur i i.toNat).modSpur i fun y => { y with releaseTimer := none }).reTest) Act.release
  | chimeExpiry k => exact h.onExpiry (Act.chime (k := k))
  | chuteJamExpiry k => exact h.onExpiry (Act.jam (k := k))
  | lampStepExpiry k => exact h.onExpiry (Act.lamp (k := k))
  | creditRefresh => exact (h.act (.refresh s)).finished
  | millisecondTick => exact (h.act (.tick s)).finished
  | frameSent q => exact h.frameSent q

end Run

/-- The sample period and every command are runs of acts. -/
theorem run_of_step {s t : State} (h : step s = .next t) : Run s t := by
  cases hp : s.pending with
  | nil =>
    obtain rfl := Host.Outcome.next.inj ((step_of_idle hp).symm.trans h)
    exact Run.wires .refl (wiresOnly_samplePeriod s)
  | cons c rest =>
    have hpopped : Run s { s with pending := rest } := Run.wires .refl rfl
    obtain ⟨u, hu, hrun⟩ := hpopped.exec c
    have hexec : step s = exec c { s with pending := rest } := by rw [step, hp]
    obtain rfl := Host.Outcome.next.inj ((hu.symm.trans hexec.symm).trans h)
    exact hrun

/-- What every act keeps, every step keeps. -/
theorem kept_of_acts {p : State → Prop} (h : ∀ {s t : State}, Act s t → p s → p t) {s t : State}
    (hstep : step s = .next t) (hs : p s) : p t := by
  have hrun := run_of_step hstep
  clear hstep
  induction hrun with
  | refl => exact hs
  | tail _ hact ih => exact h hact ih

end Sys2Proof.Steps
end

section
/-! The law of lamps: what of a state it reads, and the acts that leave that alone (R4, R39 to R59, R81 to R89, R102 to R118,
R130, R153 to R157). -/

namespace Sys2Proof.Lamps

open Sys2Proof.Machine Sys2Proof.Safety Sys2Proof.Claims Sys2Proof.Belt

/-! ### What the law reads -/

/-- Of one bay the ready count, the lamp's level, and whether its step timer runs. -/
structure Glow where
  ready : Nat
  level : Nat
  timed : Bool

/-- What the law of lamps reads. -/
structure LampPart where
  bay : Ix → Glow
  driver : LampDriver

def glowOf (b : Bay) : Glow := ⟨b.ready, b.lamp, b.lampTimer.isSome⟩

def lampPart (s : State) : LampPart := ⟨fun k => glowOf (s.bays.get k), s.lamps⟩

/-- A lamp is dark and untimed exactly where no order is ready (R130). -/
def Glow.Sound (g : Glow) : Prop := (g.level = 0 ↔ g.ready = 0) ∧ g.level ≤ 8 ∧ (g.timed = true ↔ 0 < g.ready)

/-- The law of lamps by its parts (R130, R132). -/
structure LampPart.Sound (l : LampPart) : Prop where
  bay : ∀ k, (l.bay k).Sound
  shown : ∀ k, l.driver.shown.get k ≤ 8
  phase : l.driver.phase < 5

/-- The law of lamps. -/
def Sound (s : State) : Prop := (lampPart s).Sound

theorem lampsSound_iff (s : State) : LampsSound s ↔ Sound s := by
  unfold LampsSound
  rw [Ix.forall_all]
  exact ⟨fun ⟨h, hphase⟩ => ⟨fun k => (h k).1, fun k => (h k).2, hphase⟩,
    fun h => ⟨fun k => ⟨h.bay k, h.shown k⟩, h.phase⟩⟩

theorem Sound.of_eq {s t : State} (h : lampPart t = lampPart s) (hs : Sound s) : Sound t := by
  rwa [Sound, h]

/-! ### Changes of one field or bay -/

theorem lampPart_eq {s t : State} (bays : ∀ k, glowOf (t.bays.get k) = glowOf (s.bays.get k)) (lamps : t.lamps = s.lamps) :
    lampPart t = lampPart s := by
  unfold lampPart
  simp only [bays, lamps]

theorem lampPart_of_bays {s t : State} (bays : t.bays = s.bays) (lamps : t.lamps = s.lamps) : lampPart t = lampPart s :=
  lampPart_eq (fun _ => by rw [bays]) lamps

theorem lampPart_modBay {k : Ix} {f : Bay → Bay} {s : State} (h : ∀ b, glowOf (f b) = glowOf b) :
    lampPart (s.modBay k f) = lampPart s :=
  lampPart_eq (fun j => by rw [State.modBay_bays_get]; split <;> simp only [h]) rfl

theorem lampPart_report (k : ReportKind) (d : Nat) (tag : BitVec 32) (order : BitVec 24) (s : State) :
    lampPart (s.report k d tag order) = lampPart s :=
  lampPart_of_bays (State.report_bays ..) (by rw [State.report_frame])

theorem lampPart_reportIf (k : ReportKind) (d : Nat) (tag : BitVec 32) (order : BitVec 24) (s : State) :
    lampPart (reportIf k d tag order s) = lampPart s := by
  unfold reportIf
  split
  · exact lampPart_report ..
  · rfl

theorem lampPart_releaseDecision (d : Decision) (s : State) : lampPart (s.releaseDecision d) = lampPart s := by
  cases d with
  | pass => rfl
  | land k => exact lampPart_modBay fun _ => rfl

theorem lampPart_reserve (d : Decision) (s : State) : lampPart (s.reserve d) = lampPart s := by
  cases d with
  | pass => rfl
  | land k => exact lampPart_modBay fun _ => rfl

theorem lampPart_takeTag (s : State) : lampPart s.takeTag.2 = lampPart s := by
  unfold State.takeTag
  split <;> rfl

theorem lampPart_dropOverdue (s : State) : lampPart s.dropOverdue = lampPart s :=
  lampPart_of_bays (by rw [State.dropOverdue_frame]) (by rw [State.dropOverdue_frame])

theorem lampPart_claims (s : State) : lampPart s.claims = lampPart s :=
  lampPart_of_bays (by rw [State.claims_frame]) (by rw [State.claims_frame])

theorem lampPart_finish (s : State) : lampPart s.finish = lampPart s :=
  lampPart_of_bays (by rw [State.finish_frame]) (by rw [State.finish_frame])

/-! ### Zone records, exits and merges -/

theorem lampPart_missEffects (c : MissCause) (k : Ix) (i : Ident) (s : State) :
    lampPart (s.missEffects c k i) = lampPart s :=
  (lampPart_report ..).trans (lampPart_releaseDecision (.land k) s)

theorem lampPart_testArmed (t : Tote) (s : State) : lampPart (s.testArmed t).2 = lampPart s := by
  unfold State.testArmed
  split
  · split
    · exact lampPart_missEffects ..
    · split
      · split
        · exact lampPart_missEffects ..
        · split
          · exact lampPart_missEffects ..
          · exact lampPart_modBay fun _ => rfl
        · rfl
      · rfl
  · rfl

theorem lampPart_testDivert (t : Tote) (s : State) : lampPart (s.testDivert t).2 = lampPart s := by
  unfold State.testDivert
  split
  · split
    · exact lampPart_missEffects ..
    · rfl
  · exact lampPart_testArmed t s

theorem lampPart_divertTests {test : Tote → State → Tote × State} (h : ∀ t s, lampPart (test t s).2 = lampPart s)
    (s : State) : lampPart (s.divertTests test) = lampPart s := by
  have hwalk : ∀ (l : List Tote) (u : State), lampPart (walkZone test l u).2 = lampPart u := fun l => by
    induction l with
    | nil => exact fun _ => rfl
    | cons t l ih => exact fun u => (ih _).trans (h t u)
  exact hwalk s.zone s

theorem lampPart_exitFront (t : Tote) (rest : List Tote) (s : State) : lampPart (s.exitFront t rest) = lampPart s := by
  have hannounced : ∀ u : State, lampPart (u.announceExit t) = lampPart u := fun u =>
    lampPart_of_bays (by rw [State.announceExit_frame]) (by rw [State.announceExit_frame])
  rw [Entry.exitFront_eq, hannounced, Entry.frontGone, State.exitStillLand]
  split
  · rfl
  · exact lampPart_missEffects ..

theorem lampPart_exitLoop (n : Nat) (s : State) : lampPart (State.exitLoop n s) = lampPart s := by
  induction n generalizing s with
  | zero => rfl
  | succ n ih =>
    cases hz : s.zone with
    | nil => rw [Entry.exitLoop_of_empty hz]
    | cons t rest =>
      rw [Entry.exitLoop_succ hz]
      split
      · exact (ih _).trans ((lampPart_claims _).trans (lampPart_exitFront t rest s))
      · rfl

theorem lampPart_exitTests (s : State) : lampPart s.exitTests = lampPart s :=
  (lampPart_exitLoop ..).trans (lampPart_claims s)

theorem lampPart_routeEffects (i : Ident) (stray : Bool) (o : RouteOutcome) (s : State) :
    lampPart (s.routeEffects i stray o) = lampPart s := by
  unfold State.routeEffects
  split
  · split
    · rfl
    · exact lampPart_report ..
  · split
    · exact lampPart_report ..
    · exact lampPart_reserve ..

theorem lampPart_grantSpur (i : Ix) (s : State) : lampPart (s.grantSpur i) = lampPart s := by
  unfold State.grantSpur
  split
  · rfl
  · exact lampPart_routeEffects ..

theorem lampPart_reTest (s : State) : lampPart s.reTest = lampPart s := by
  change lampPart s.arbitrate = lampPart s
  unfold State.arbitrate
  simp only []
  split
  · rfl
  · exact lampPart_grantSpur ..

/-! ### Halts, changes of P, speed samples -/

theorem lampPart_stickSpur (i : Ix) (d : Nat) (s : State) : lampPart (s.stickSpur i d) = lampPart s := by
  unfold State.stickSpur
  split
  · simp only []
    split
    · exact (lampPart_report ..).trans (lampPart_releaseDecision ..)
    · exact lampPart_releaseDecision ..
  · rfl

theorem lampPart_enterHalt (c : HaltCause) (s : State) : lampPart (s.enterHalt c) = lampPart s := by
  by_cases hrun : s.node.state = .run
  · have hcut : lampPart (Nodes.pulsesCut c s) = lampPart s :=
      lampPart_eq (fun k => by rw [Nodes.pulsesCut, Tri.get_map, State.report_bays]; rfl)
        (by rw [Nodes.pulsesCut, State.report_lamps])
    rw [Nodes.enterHalt_of_run hrun]
    exact (lampPart_stickSpur ..).trans ((lampPart_stickSpur ..).trans ((lampPart_stickSpur ..).trans hcut))
  · rw [State.enterHalt_of_not_run hrun]

theorem lampPart_positionChange (s : State) : lampPart s.positionChange = lampPart s := by
  have hexpired : lampPart s.expireTag = lampPart s :=
    lampPart_of_bays (by rw [State.expireTag_frame]) (by rw [State.expireTag_frame])
  have hjam : ∀ u : State, lampPart u.jamTest = lampPart u := fun u => by
    unfold State.jamTest
    split
    · exact lampPart_enterHalt .jam u
    · rfl
  calc lampPart s.positionChange
    _ = lampPart (s.expireTag.dropOverdue.jamTest.divertTests State.testDivert) :=
      (lampPart_reTest _).trans (lampPart_exitTests _)
    _ = lampPart s.expireTag.dropOverdue := (lampPart_divertTests lampPart_testDivert _).trans (hjam _)
    _ = lampPart s := (lampPart_dropOverdue _).trans hexpired

theorem lampPart_takeSample (s : State) : lampPart s.takeSample = lampPart s := by
  have hhalt : lampPart (haltOnStall s) = lampPart s := by
    unfold haltOnStall
    split
    · exact lampPart_enterHalt .stall (sampled s)
    · rfl
  have htests := lampPart_divertTests lampPart_testArmed (retargeted (haltOnStall s))
  rw [takeSample_eq, lampPart_reTest, lampPart_claims, htests]
  exact hhalt

/-! ### Eyes -/

theorem lampPart_arrive (stamp : Pos) (tag : Option (BitVec 32)) (s : State) : lampPart (s.arrive stamp tag) = lampPart s := by
  have happended : ∀ i stray noRead (u : State), lampPart (u.appendEntering stamp i stray noRead) = lampPart u :=
    fun _ _ _ _ => lampPart_routeEffects ..
  unfold State.arrive
  split
  · refine (happended ..).trans (lampPart_of_bays ?_ ?_) <;> rw [State.reportMissing_frame]
  · exact (happended ..).trans (lampPart_report ..)

theorem lampPart_entryLeading (e : Edge) (s : State) : lampPart (s.entryLeading e) = lampPart s := by
  have htag := lampPart_takeTag s
  unfold State.entryLeading
  split
  · rfl
  split
  · rfl
  split
  · exact (lampPart_report ..).trans htag
  · exact (lampPart_reTest _).trans ((lampPart_exitTests _).trans
      ((lampPart_dropOverdue _).trans ((lampPart_arrive ..).trans htag)))

theorem lampPart_closeEntering (stamp : Pos) (init : List Tote) (t : Tote) (d : Decision) (s : State) :
    lampPart (s.closeEntering stamp init t d) = lampPart s := by
  have hreported : ∀ len, lampPart (mismatchReported t len s) = lampPart s := fun len => by
    unfold mismatchReported
    split
    · exact lampPart_report ..
    · rfl
  cases d with
  | pass => rw [closeEntering_pass]; exact hreported _
  | land k => rw [closeEntering_land]; exact (lampPart_testArmed ..).trans (hreported _)

theorem lampPart_entryTrailing (e : Edge) (s : State) : lampPart (s.entryTrailing e) = lampPart s := by
  unfold State.entryTrailing
  split
  · rfl
  split
  · split
    · exact (lampPart_reTest _).trans ((lampPart_claims _).trans (lampPart_closeEntering ..))
    · rfl
  · rfl

theorem lampPart_loseFront (i : Ix) (d : Nat) (s : State) : lampPart (s.loseFront i d) = lampPart s := by
  unfold State.loseFront
  simp only []
  split
  · exact lampPart_report ..
  · rfl

theorem lampPart_gateBlocked (i : Ix) (s : State) : lampPart (s.gateBlocked i) = lampPart s := by
  have hatGate : lampPart (s.toteAtGate i) = lampPart s := by
    unfold State.toteAtGate
    split
    · rfl
    · exact lampPart_report ..
  unfold State.gateBlocked
  split
  · exact (lampPart_reTest _).trans hatGate
  · rfl

theorem lampPart_discardGranted (i : Ix) (g : Grant) (r : SpurRec) (why : ReportKind) (d : Nat) (s : State) :
    lampPart (s.discardGranted i g r why d) = lampPart s :=
  (lampPart_report ..).trans (lampPart_releaseDecision g.decision s)

theorem lampPart_gateReleased (i : Ix) (stamp : Pos) (g : Grant) (s : State) :
    lampPart (s.gateReleased i stamp g) = lampPart s := by
  unfold State.gateReleased
  split
  · rfl
  split
  · exact lampPart_discardGranted ..
  split
  · exact lampPart_discardGranted ..
  · exact (lampPart_exitTests _).trans (lampPart_testArmed ..)

theorem lampPart_gateCleared (i : Ix) (e : Edge) (s : State) : lampPart (s.gateCleared i e) = lampPart s := by
  unfold State.gateCleared
  split
  · split
    · exact lampPart_loseFront ..
    · exact (lampPart_reTest _).trans (lampPart_gateReleased ..)
    · rfl
  · rfl

theorem lampPart_landUnexpected (k : Ix) (s : State) : lampPart (s.landUnexpected k) = lampPart s := by
  unfold State.landUnexpected
  split
  · exact (lampPart_report ..).trans (lampPart_modBay fun _ => rfl)
  · exact lampPart_report ..

theorem lampPart_confirmCleared (k : Ix) (s : State) : lampPart (s.confirmCleared k) = lampPart s := by
  have hcleared : lampPart (s.modBay k fun b => { b with chuteJam := none, blocked := false }) = lampPart s :=
    lampPart_modBay fun _ => rfl
  unfold State.confirmCleared
  simp only []
  split
  · exact (lampPart_report ..).trans hcleared
  · exact hcleared

theorem lampPart_chuteJammed (k : Ix) (s : State) : lampPart (s.chuteJammed k) = lampPart s := by
  have hjammed : lampPart (s.modBay k fun b => { b with chuteJam := none, blocked := true }) = lampPart s :=
    lampPart_modBay fun _ => rfl
  unfold State.chuteJammed
  simp only []
  split
  · exact hjammed
  · exact (lampPart_report ..).trans hjammed

/-! ### Notices and credits -/

theorem lampPart_admission (q : Byte) (i : Ident) (s : State) : lampPart (s.admission q i).1 = lampPart s := by
  have hreported : ∀ (c : Prop) [Decidable c] k d,
      lampPart (if c then s.report k d i.tag i.order else s) = lampPart s := fun c _ k d => by
    split
    · exact lampPart_report ..
    · rfl
  unfold State.admission
  split
  · exact hreported ..
  · split
    · exact lampPart_report ..
    · unfold State.noticeLocked
      simp only []
      split
      · exact (lampPart_report .noticeBeyondCredit 1 i.tag i.order _).trans (hreported ..)
      · exact hreported ..

theorem lampPart_takeNotice (q : Byte) (i : Ident) (s : State) : lampPart (s.takeNotice q i) = lampPart s := by
  have htracked : ∀ u : State, lampPart (u.trackNotice i) = lampPart u := fun u => by
    unfold State.trackNotice
    split
    · exact lampPart_report ..
    · exact lampPart_dropOverdue _
  unfold State.takeNotice
  simp only []
  split
  · exact (lampPart_reTest _).trans ((htracked _).trans (lampPart_admission ..))
  · exact lampPart_admission ..

theorem lampPart_takeSync (value : Byte) (s : State) : lampPart (s.takeSync value) = lampPart s :=
  (lampPart_reTest _).trans (lampPart_claims _)

theorem lampPart_takeLocked (g r : Byte) (s : State) : lampPart (s.takeLocked g r) = lampPart s := by
  have hresync : lampPart (s.reportResync g r) = lampPart s := by
    unfold State.reportResync
    split
    · exact lampPart_report ..
    · rfl
  exact (lampPart_reTest _).trans ((lampPart_claims _).trans hresync)

end Sys2Proof.Lamps
end

section
/-! Every step keeps each lamp dark exactly where no order is ready (R122 to R132, R161). -/

namespace Sys2Proof.Lamps

open Sys2Proof.Machine Sys2Proof.Claims Sys2Proof.Belt Sys2Proof.Steps

/-! ### One bay (R130, R131) -/

/-- An order called lights the lamp at level 1, whatever it showed before (R130). -/
theorem glowSound_orderCalled (p : Params) (c : Cls) (b : Bay) : (glowOf (b.orderCalled p c)).Sound :=
  ⟨iff_of_false (Nat.succ_ne_zero 0) (Nat.succ_ne_zero b.ready), (by decide : 1 ≤ 8),
    iff_of_true rfl (Nat.succ_pos b.ready)⟩

theorem glowSound_fallToDark {b : Bay} (hmax : b.lamp ≤ 8) (hlit : b.ready ≠ 0 → b.lamp ≠ 0 ∧ b.lampTimer.isSome = true) :
    (glowOf b.fallToDark).Sound := by
  unfold Bay.fallToDark
  split
  · next hnone => exact ⟨iff_of_true rfl hnone, Nat.zero_le 8, iff_of_false nofun hnone.not_gt⟩
  · next hsome =>
    obtain ⟨hlevel, htimed⟩ := hlit hsome
    exact ⟨iff_of_false hlevel hsome, hmax, iff_of_true htimed (Nat.pos_of_ne_zero hsome)⟩

/-- With the last ready order gone the lamp goes dark; else it stays as it is (R130). -/
theorem glowSound_orderGone (c : Cls) {b : Bay} (h : (glowOf b).Sound) : (glowOf (b.orderGone c)).Sound := by
  obtain ⟨hdark, hmax, htimed⟩ := h
  refine glowSound_fallToDark hmax fun hleft => ?_
  have hready : 0 < b.ready := Nat.pos_of_ne_zero (mt (fun h => by rw [h]) hleft)
  exact ⟨mt hdark.mp hready.ne', htimed.mpr hready⟩

/-- A step timer that is due runs, so its bay has a ready order and its lamp is lit: a step keeps it lit (R131). -/
theorem glowSound_lampStep (p : Params) {b : Bay} (hdue : b.lampTimer = some 0) (h : (glowOf b).Sound) :
    (glowOf (b.lampStep p)).Sound := by
  obtain ⟨hdark, hmax, htimed⟩ := h
  have hready : 0 < b.ready := htimed.mp (congrArg Option.isSome hdue)
  have hlit : b.lamp ≠ 0 := mt hdark.mp hready.ne'
  obtain ⟨hstillLit, hstillMax⟩ : (b.lampStep p).lamp ≠ 0 ∧ (b.lampStep p).lamp ≤ 8 := by
    change b.lamp ≤ 8 at hmax
    unfold Bay.lampStep Config.lampMax
    dsimp only
    split_ifs <;> omega
  exact ⟨iff_of_false hstillLit hready.ne', hstillMax, iff_of_true rfl hready⟩

theorem glowOf_tick (b : Bay) : glowOf b.tick = glowOf b := congrArg (Glow.mk b.ready b.lamp) Option.isSome_map

theorem glowOf_degradeLast (b : Bay) : glowOf b.degradeLast = glowOf b := by
  unfold Bay.degradeLast
  split <;> rfl

/-! ### All bays -/

theorem Sound.of_bays {s t : State} (hs : Sound s) (lamps : t.lamps = s.lamps)
    (bays : ∀ k, (glowOf (s.bays.get k)).Sound → (glowOf (t.bays.get k)).Sound) : Sound t where
  bay k := bays k (hs.bay k)
  shown k := (congrArg (fun d : LampDriver => d.shown.get k) lamps).trans_le (hs.shown k)
  phase := (congrArg LampDriver.phase lamps).trans_lt hs.phase

theorem Sound.modBay {k : Ix} {f : Bay → Bay} {s : State} (hs : Sound s)
    (hf : (glowOf (s.bays.get k)).Sound → (glowOf (f (s.bays.get k))).Sound) : Sound (s.modBay k f) :=
  hs.of_bays rfl fun j hj => by
    rw [State.modBay_bays_get]
    split
    · next h => exact h ▸ hf (h ▸ hj)
    · exact hj

/-! ### Landings (R122 to R125) -/

theorem sound_singleLanding (k : Ix) (r : LandingRec) {s : State} (hs : Sound s) : Sound (s.singleLanding k r) :=
  (hs.modBay fun _ => glowSound_orderCalled s.params r.cls _).of_eq (lampPart_report ..)

theorem sound_degradedLanding (why : ReportKind) (k : Ix) (r : LandingRec) {s : State} (hs : Sound s) :
    Sound (s.degradedLanding why k r) :=
  sound_singleLanding k r (hs.of_eq ((lampPart_report ..).trans (lampPart_modBay glowOf_degradeLast)))

theorem sound_declareReady (e : GroupEntry) (r : LandingRec) {s : State} (hs : Sound s) : Sound (s.declareReady e r) := by
  refine Sound.of_eq (lampPart_report ..) (hs.of_bays rfl fun k hk => ?_)
  rw [Tri.get_ofFn]
  split
  · exact glowSound_orderCalled ..
  · exact hk

theorem sound_countLanding (k : Ix) (r : LandingRec) (e : GroupEntry) {s : State} (hs : Sound s) :
    Sound (s.countLanding k r e) := by
  have hcounted : Sound { s with groups := replaceGroup (e.land k r.cls) s.groups } := hs
  unfold State.countLanding
  simp only []
  split
  · exact sound_declareReady _ r hcounted
  · exact hcounted

theorem sound_assemblyLanding (k : Ix) (r : LandingRec) {s : State} (hs : Sound s) : Sound (s.assemblyLanding k r) := by
  unfold State.assemblyLanding
  split
  · exact sound_singleLanding k r hs
  · split
    · split
      · exact sound_degradedLanding _ k r hs
      · exact sound_countLanding k r _ hs
    · split
      · exact sound_countLanding k r _ (Sound.of_eq (s := s) rfl hs)
      · exact sound_degradedLanding _ k r hs

theorem sound_landTote (k : Ix) (t : Tote) (rest : List Tote) {s : State} (hs : Sound s) : Sound (s.landTote k t rest) := by
  have hgone : Sound (landedRecord k rest s) := hs.of_eq (lampPart_modBay (s := { s with zone := rest }) fun _ => rfl)
  by_cases hfull : 8 ≤ (s.bays.get k).landing.length
  · rw [landTote_full hfull]
    exact hgone.of_eq (lampPart_reportIf ..)
  · rw [landTote_room (Nat.not_le.mp hfull)]
    refine sound_assemblyLanding k _ (Sound.of_eq (lampPart_reportIf ..) (hgone.of_eq (lampPart_modBay ?_)))
    exact fun _ => rfl

theorem sound_confirmBlocked (k : Ix) {s : State} (hs : Sound s) : Sound (s.confirmBlocked k) := by
  have hjam : Sound (s.startChuteJam k) := hs.of_eq (lampPart_modBay fun _ => rfl)
  unfold State.confirmBlocked
  split
  · exact (sound_landTote k _ _ hjam).of_eq ((lampPart_reTest _).trans (lampPart_exitTests _))
  · exact hjam.of_eq (lampPart_landUnexpected ..)

/-! ### Taken totes (R94, R97, R126 to R128) -/

theorem sound_assemblyTaken (k : Ix) (r : LandingRec) {s : State} (hs : Sound s) : Sound (s.assemblyTaken k r) := by
  have hlamps : (s.assemblyTaken k r).lamps = s.lamps := by rw [State.assemblyTaken_frame]
  rcases Lanes.assemblyTaken_bays k r s with hbays | ⟨c, hbays⟩
  · exact hs.of_eq (lampPart_of_bays hbays hlamps)
  · exact Sound.of_eq (lampPart_of_bays (s := s.modBay k (Bay.orderGone c)) hbays hlamps) (hs.modBay (glowSound_orderGone c))

theorem sound_takeFront (k : Ix) (d : Nat) {s : State} (hs : Sound s) : Sound (s.takeFront k d) := by
  cases hlane : (s.bays.get k).landing with
  | nil => rwa [Lanes.takeFront_of_empty hlane]
  | cons r rest =>
    have htaken : Sound (Lanes.frontTaken k d r rest s) :=
      hs.of_eq ((lampPart_reportIf ..).trans (lampPart_modBay fun _ => rfl))
    rw [Lanes.takeFront_of_cons hlane]
    split
    · exact htaken
    · exact sound_assemblyTaken k r htaken

theorem sound_takeMany (k : Ix) (d n : Nat) {s : State} (hs : Sound s) : Sound (State.takeMany k d n s) := by
  induction n generalizing s with
  | zero => exact hs
  | succ n ih => exact ih (sound_takeFront k d hs)

theorem sound_frontCleared (k : Ix) {s : State} (hs : Sound s) : Sound (s.frontCleared k) := by
  unfold State.frontCleared
  split
  · exact hs
  · exact sound_takeFront k _ hs

theorem sound_ownerOf (i : EyeId) (b : Bool) (e : Edge) {s : State} (hs : Sound s) : Sound (ownerOf i b e s) := by
  cases i <;> cases b
  · exact hs.of_eq (lampPart_entryTrailing e s)
  · exact hs.of_eq (lampPart_entryLeading e s)
  · exact hs.of_eq (lampPart_gateCleared _ e s)
  · exact hs.of_eq (lampPart_gateBlocked _ s)
  · exact hs.of_eq (lampPart_confirmCleared _ s)
  · exact sound_confirmBlocked _ hs
  · exact sound_frontCleared _ hs
  · exact hs

/-! ### Requests: BAY CLEAR alone touches the lamps -/

/-- A request that leaves the lamps alone whatever its payload. -/
def LeavesLamps (op : Handler) : Prop := ∀ p s, lampPart (op p s).1 = lampPart s

theorem leavesLamps_of_read {op : Handler} (h : ∀ p s, (op p s).1 = s) : LeavesLamps op := fun p s => by rw [h]

theorem leavesLamps_setParameters : LeavesLamps reqSetParameters := fun p s => by
  unfold reqSetParameters
  split
  · split
    · rfl
    · rw [writePairs_frame]; rfl
  · rfl

theorem leavesLamps_routeWrite : LeavesLamps reqRouteWrite := fun p s => by
  unfold reqRouteWrite
  repeat' split
  all_goals rfl

theorem leavesLamps_routeCommit : LeavesLamps reqRouteCommit := fun p s => by
  unfold reqRouteCommit
  split <;> rfl

theorem leavesLamps_spurNotice : LeavesLamps reqSpurNotice := fun p s => by
  unfold reqSpurNotice
  repeat' split
  all_goals rfl

theorem leavesLamps_spurRestore : LeavesLamps reqSpurRestore := fun p s => by
  have hrestored : ∀ i, lampPart (s.restoreSpur i) = lampPart s := fun i => by
    unfold State.restoreSpur
    split
    · exact lampPart_reTest _
    · exact lampPart_loseFront ..
  unfold reqSpurRestore
  split
  · split
    · rfl
    · split
      · exact hrestored _
      · rfl
  · rfl

theorem leavesLamps_counterSetup : LeavesLamps reqCounterSetup := fun p s => by
  unfold reqCounterSetup
  repeat' split
  all_goals rfl

theorem leavesLamps_counterClear : LeavesLamps reqCounterClear := fun p s => by
  unfold reqCounterClear
  repeat' split
  all_goals rfl

theorem leavesLamps_start : LeavesLamps reqStart := fun p s => by
  unfold reqStart
  split
  · rfl
  split
  · rfl
  split
  · rfl
  split
  · rfl
  · exact lampPart_reTest _

theorem leavesLamps_halt : LeavesLamps reqHalt := fun p s => by
  unfold reqHalt
  split
  · rfl
  · split
    · rfl
    · rfl
    · exact (lampPart_reTest _).trans (lampPart_enterHalt .request s)

theorem leavesLamps_resume : LeavesLamps reqResume := fun p s => by
  unfold reqResume
  split
  · rfl
  split
  · rfl
  split
  · rfl
  · exact (lampPart_reTest _).trans (lampPart_report ..)

/-- CONFIG entry keeps the lane side of each bay (R157). -/
theorem lampPart_enterConfig (s : State) : lampPart s.enterConfig = lampPart s := by
  refine lampPart_eq (fun k => ?_) (State.report_lamps ..)
  rw [State.enterConfig, Tri.get_map, State.report_bays]
  rfl

theorem leavesLamps_config : LeavesLamps reqConfig := fun p s => by
  unfold reqConfig
  split
  · rfl
  split
  · rfl
  · exact lampPart_enterConfig s

/-- A request that keeps the law of lamps whatever its payload. -/
def SoundHandler (op : Handler) : Prop := ∀ p s, Sound s → Sound (op p s).1

theorem LeavesLamps.sound {op : Handler} (h : LeavesLamps op) : SoundHandler op := fun p s hs => hs.of_eq (h p s)

theorem soundHandler_bayClear : SoundHandler reqBayClear := fun p s hs => by
  unfold reqBayClear
  split
  · split
    · exact hs
    · split
      · exact hs
      · exact sound_takeMany _ _ _ hs
  · exact hs

theorem soundHandler_handlerOf (kind : Byte) : SoundHandler (handlerOf kind) := by
  unfold handlerOf
  split
  · exact (leavesLamps_of_read Totes.reqInquire_state).sound
  · exact leavesLamps_setParameters.sound
  · exact (leavesLamps_of_read Totes.reqReadParameters_state).sound
  · exact leavesLamps_routeWrite.sound
  · exact leavesLamps_routeCommit.sound
  · exact (leavesLamps_of_read Totes.reqRouteRead_state).sound
  · exact leavesLamps_spurNotice.sound
  · exact leavesLamps_spurRestore.sound
  · exact soundHandler_bayClear
  · exact (leavesLamps_of_read Totes.reqListRead_state).sound
  · exact leavesLamps_counterSetup.sound
  · exact (leavesLamps_of_read Totes.reqCounterRead_state).sound
  · exact leavesLamps_counterClear.sound
  · exact leavesLamps_start.sound
  · exact leavesLamps_halt.sound
  · exact leavesLamps_resume.sound
  · exact leavesLamps_config.sound
  · exact (leavesLamps_of_read Totes.reqNodeReset_state).sound
  · exact (leavesLamps_of_read fun _ _ => rfl).sound

/-! ### The clock and resets -/

/-- A period that begins shows the levels of its beginning (R132). -/
theorem sound_tick {s : State} (hs : Sound s) : Sound s.tick where
  bay k := by
    have htick : (lampPart s.tick).bay k = (lampPart s).bay k := by
      change glowOf ((s.bays.map Bay.tick).get k) = glowOf (s.bays.get k)
      rw [Tri.get_map, glowOf_tick]
    exact htick ▸ hs.bay k
  shown k := by
    change s.lampTick.shown.get k ≤ 8
    unfold State.lampTick
    split
    · exact hs.shown k
    · obtain ⟨-, hmax, -⟩ := hs.bay k
      exact (Tri.get_map ..).trans_le hmax
  phase := by
    change s.lampTick.phase < 5
    unfold State.lampTick
    split
    · next h => exact h
    · exact Nat.zero_lt_succ 4

/-- A reset leaves every bay dark (R134). -/
theorem sound_resetPart (s : State) : Sound s.resetPart where
  bay k := by
    have hdark : (lampPart s.resetPart).bay k = ⟨0, 0, false⟩ := congrArg glowOf (Tri.get_const Bay.reset k)
    rw [hdark]
    exact ⟨iff_of_true rfl rfl, Nat.zero_le 8, iff_of_false nofun (Nat.lt_irrefl 0)⟩
  shown k := (Tri.get_const 0 k).trans_le (Nat.zero_le 8)
  phase := Nat.zero_lt_succ 4

/-! ### Every step -/

theorem lampPart_of_wiresOnly {s t : State} (h : WiresOnly s t) : lampPart t = lampPart s := by
  rw [h]; rfl

/-- Each act of the commands keeps the law of lamps. -/
theorem sound_act {s t : State} (h : Act s t) (hs : Sound s) : Sound t := by
  cases h with
  | wires h => exact hs.of_eq (lampPart_of_wiresOnly h)
  | finish => exact hs.of_eq (lampPart_finish s)
  | reset => exact sound_resetPart s
  | request kind p => exact soundHandler_handlerOf kind p s hs
  | notice q i => exact hs.of_eq (lampPart_takeNotice q i s)
  | sync value => exact hs.of_eq (lampPart_takeSync value s)
  | locked g r => exact hs.of_eq (lampPart_takeLocked g r s)
  | move => exact hs.of_eq (lampPart_positionChange s)
  | halt => exact hs.of_eq ((lampPart_reTest _).trans (lampPart_enterHalt _ s))
  | speed => exact hs.of_eq (lampPart_takeSample s)
  | owner i b e => exact sound_ownerOf i b e hs
  | paddle | chime => exact hs.of_eq (lampPart_modBay fun _ => rfl)
  | gate | refresh => exact hs
  | @release i => exact hs.of_eq ((lampPart_reTest _).trans (lampPart_stickSpur i i.toNat s))
  | jam => exact hs.of_eq (lampPart_chuteJammed _ s)
  | lamp due => exact hs.modBay (glowSound_lampStep s.params due)
  | tick => exact sound_tick hs

/-- Settles O60: an order called lights its bay and the last one gone darkens it, a lamp steps only while its timer runs, and the
outputs show levels the lamps had; no other act touches a lamp or a ready count. -/
theorem stepsKeepLampsWithReadyCounts : Obligations.StepsKeepLampsWithReadyCounts := by
  unfold Obligations.StepsKeepLampsWithReadyCounts
  intro s t hlamps hstep
  exact (lampsSound_iff t).mpr (kept_of_acts sound_act hstep ((lampsSound_iff s).mp hlamps))

end Sys2Proof.Lamps
end

section
/-! Landings and taken totes at the Assembly Unit (R122 to R127, R130). -/

namespace Sys2Proof.Assembly

open Sys2Proof.Machine Sys2Proof.Claims Sys2Proof.Belt

/-! ### The names of the statements are those of the model -/

theorem isRush_eq (c : Cls) : c.isRush = decide (c = .rush) := by cases c <;> rfl

theorem orderCalled_eq_called (p : Params) (c : Cls) (b : Bay) : b.orderCalled p c = called p (decide (c = .rush)) b := by
  rw [← isRush_eq]; rfl

theorem orderGone_eq_gone (c : Cls) : Bay.orderGone c = gone (decide (c = .rush)) := by
  funext b
  rw [← isRush_eq]
  unfold gone
  by_cases hnone : b.ready - 1 = 0
  · rw [if_pos hnone, if_pos hnone]; exact if_pos hnone
  · rw [if_neg hnone, if_neg hnone]; exact if_neg hnone

theorem land_eq (k : Ix) (c : Cls) (e : GroupEntry) : e.land k c = { e with
    landed := e.landed + 1, untaken := e.untaken.modify k (· + 1)
    cls := if c = .rush then .rush else e.cls, ready := e.ready || decide (e.landed + 1 = e.count) } := by
  cases c <;> rfl

/-! ### Landings (R122 to R125) -/

theorem singleLanding_eq (k : Ix) (r : LandingRec) (s : State) : s.singleLanding k r =
    (s.modBay k (called s.params (decide (r.cls = .rush)))).report .orderReady (2 ^ k.toNat) r.tag r.order := by
  rw [← funext (orderCalled_eq_called s.params r.cls)]; rfl

/-- The record of a degraded landing, which stands last in its lane, loses its group part (R123, R124). -/
theorem modBay_degradeLast {k : Ix} {s : State} {lane : List LandingRec} {r : LandingRec}
    (h : (s.bays.get k).landing = lane ++ [r]) :
    s.modBay k Bay.degradeLast = s.modBay k fun b => { b with landing := lane ++ [{ r with group := none }] } := by
  refine modBay_congr ?_
  simp only [Bay.degradeLast, h, List.getLast?_concat, List.dropLast_concat]

theorem countLanding_of_waiting {e : GroupEntry} (h : e.landed + 1 ≠ e.count) (k : Ix) (r : LandingRec) (s : State) :
    s.countLanding k r e = { s with groups := replaceGroup (e.land k r.cls) s.groups } := if_neg h

/-- The last member of its group to land makes the order ready (R125). -/
theorem countLanding_of_last {e : GroupEntry} (h : e.landed + 1 = e.count) (k : Ix) (r : LandingRec) (s : State) :
    s.countLanding k r e =
      ({ s with groups := replaceGroup (e.land k r.cls) s.groups } : State).declareReady (e.land k r.cls) r := if_pos h

section Member

variable {r : LandingRec} {g : GroupPart} {s : State} (hg : r.group = some g)

include hg

theorem assemblyLanding_of_entry {e : GroupEntry} (he : (s.groups.find? fun x => decide (x.id = g.id)) = some e) (k : Ix) :
    s.assemblyLanding k r =
      if e.landed = e.count then s.degradedLanding .groupExcess k r else s.countLanding k r e := by
  simp only [State.assemblyLanding, hg, he]

theorem assemblyLanding_of_new (hnew : ∀ x ∈ s.groups, x.id ≠ g.id) (k : Ix) :
    s.assemblyLanding k r =
      if s.groups.length < 8 then
        ({ s with groups := s.groups ++ [GroupEntry.new g] } : State).countLanding k r (GroupEntry.new g)
      else s.degradedLanding .groupUntracked k r := by
  have hfind : (s.groups.find? fun x => decide (x.id = g.id)) = none :=
    List.find?_eq_none.mpr fun x hx => by simpa using hnew x hx
  simp only [State.assemblyLanding, hg, hfind]
  rfl

end Member

/-- Settles O39: a member's entry and its place in the table decide between counting and a landing of its own, and the count
decides whether the order is called. -/
theorem landingsAreCountedAndCalled : Obligations.LandingsAreCountedAndCalled := by
  unfold Obligations.LandingsAreCountedAndCalled
  intro s k r lane hlane single degraded counts
  have hsingle : ∀ x : State, x.params = s.params → x.singleLanding k r = single x := fun x hx => by
    rw [singleLanding_eq, hx]
  have hdegraded : ∀ why, s.degradedLanding why k r = single (degraded.report why k.toNat r.tag r.order) := fun why => by
    rw [State.degradedLanding, modBay_degradeLast hlane]
    exact hsingle _ (State.report_params ..)
  have hcounts : ∀ e gs, counts e gs (({ s with groups := gs } : State).countLanding k r e) := fun e gs => by
    refine ⟨fun hwaiting => ?_, fun hlast => ?_⟩
    · rw [countLanding_of_waiting hwaiting, land_eq]; rfl
    · rw [countLanding_of_last hlast, State.declareReady, land_eq]
      simp only [orderCalled_eq_called]
      rfl
  refine ⟨fun hnone => ?_, fun g e hg he => ⟨fun hroom => ?_, fun hfull => ?_⟩,
    fun g hg hnew => ⟨fun hroom => ?_, fun hfull => ?_⟩⟩
  · rw [← hsingle s rfl]
    simp only [State.assemblyLanding, hnone]
  · rw [assemblyLanding_of_entry hg he, if_neg hroom]
    exact hcounts e s.groups
  · rw [assemblyLanding_of_entry hg he, if_pos hfull]
    exact hdegraded .groupExcess
  · rw [assemblyLanding_of_new hg hnew, if_pos hroom]
    exact hcounts (GroupEntry.new g) _
  · rw [assemblyLanding_of_new hg hnew, if_neg (Nat.not_lt.mpr hfull)]
    exact hdegraded .groupUntracked

/-! ### Taken totes (R126, R127) -/

theorem singleTaken_eq (k : Ix) (r : LandingRec) (s : State) : s.singleTaken k r =
    (s.modBay k (gone (decide (r.cls = .rush)))).report .orderCollected k.toNat r.tag r.order := by
  rw [← orderGone_eq_gone]; rfl

theorem memberCounted_eq (k : Ix) (e : GroupEntry) (s : State) : Totes.memberCounted k e s =
    if e.ready = true ∧ (e.take k).untaken.get k = 0 then
      ({ s with groups := replaceGroup (e.take k) s.groups } : State).modBay k (gone (decide (e.cls = .rush)))
    else { s with groups := replaceGroup (e.take k) s.groups } := by
  simp only [Totes.memberCounted, orderGone_eq_gone, Bool.and_eq_true, decide_eq_true_eq]

theorem memberCounted_groups (k : Ix) (e : GroupEntry) (s : State) :
    (Totes.memberCounted k e s).groups = replaceGroup (e.take k) s.groups := by
  unfold Totes.memberCounted
  split <;> rfl

/-- What replaced an entry goes where entries of its id do. -/
theorem filter_replaceGroup {e e' : GroupEntry} (hid : e'.id = e.id) (gs : List GroupEntry) :
    (replaceGroup e' gs).filter (fun x => decide (x.id ≠ e.id)) = gs.filter fun x => decide (x.id ≠ e.id) := by
  unfold replaceGroup
  induction gs with
  | nil => rfl
  | cons x gs ih =>
    rw [List.map_cons, List.filter_cons, List.filter_cons, ih]
    by_cases hx : x.id = e.id <;> simp [hx, hid]

/-- Settles O40: a member is counted out of its entry, the count left in its bay decides whether the order is gone from there, and
the count of all whether the entry goes. -/
theorem takenTotesAreCollected : Obligations.TakenTotesAreCollected := by
  unfold Obligations.TakenTotesAreCollected
  intro s k r
  refine ⟨fun hnone => ?_, fun g e hg he => ?_⟩
  · rw [← singleTaken_eq]
    simp only [State.assemblyTaken, hnone]
  · intro e' x y
    have htaken : s.assemblyTaken k r = s.memberTaken k r e := by simp only [State.assemblyTaken, hg, he]
    have hcounted : Totes.memberCounted k e s = y := memberCounted_eq k e s
    have hgroups : y.groups = replaceGroup e' s.groups := hcounted ▸ memberCounted_groups k e s
    rw [htaken, Totes.memberTaken_eq, hcounted, hgroups, filter_replaceGroup (e' := e') rfl]
    exact ⟨fun hleft => if_neg hleft, fun hlast => if_pos hlast⟩

end Sys2Proof.Assembly
end

section
/-! The laws of the Credit Unit: what they ask, and the changes of a state that keep them (R135, R136, R142, R145, R149). -/

namespace Sys2Proof.Credits

open Sys2Proof.Machine Sys2Proof.Safety
open State (RecordsOnly)

/-! ### The laws -/

/-- o within UP_LIMIT, at 0 in CONFIG and the difference of the totals in LOCKED, the view within 16, the parameters in range. -/
structure Counted (s : State) : Prop where
  params : s.params.inRange = true
  limit : s.credit.o ≤ s.params.upLimit
  config : s.node.state = .config → s.credit.o = 0
  locked : s.credit.mode = .locked → s.credit.o = (s.credit.g - s.credit.r).toNat
  view : s.credit.view ≤ 16

theorem counted_iff (s : State) : ParamsSound s ∧ CreditsSound s ↔ Counted s :=
  ⟨fun ⟨hparams, hlimit, hconfig, hlocked, hview⟩ => ⟨hparams, hlimit, hconfig, hlocked, hview⟩,
    fun h => ⟨h.params, h.limit, h.config, h.locked, h.view⟩⟩

/-- No record holds a claim. -/
def Unclaimed (zone : List Tote) : Prop := ∀ t ∈ zone, t.claim = none

/-- A terminal node neither claims nor holds its exit. In CONFIG, where TERMINAL may be written, no record stands in the zone
and no exit is held, whatever TERMINAL is. -/
structure Unheld (s : State) : Prop where
  empty : s.node.state = .config → s.zone = []
  hold : s.node.state = .config ∨ s.params.terminal = 1 → s.credit.exitHold = false
  claim : s.params.terminal = 1 → Unclaimed s.zone

theorem unheld_of_quiet {s : State} (hconfig : ConfigQuiet s) (hterminal : TerminalQuiet s) : Unheld s where
  empty h := by
    obtain ⟨-, hzone, -⟩ := hconfig h
    exact hzone
  hold h := h.elim (fun h => by obtain ⟨-, -, hhold, -⟩ := hconfig h; exact hhold) fun h => (hterminal h).1
  claim h := (hterminal h).2

theorem Unheld.terminalQuiet {s : State} (h : Unheld s) : TerminalQuiet s :=
  fun hterminal => ⟨h.hold (.inr hterminal), h.claim hterminal⟩

/-- UP_LIMIT is at most 16 (R176), so o never overruns a byte. -/
theorem Counted.upLimit_le {s : State} (h : Counted s) : s.params.upLimit ≤ 16 :=
  (of_decide_eq_true ((Belt.inRange_iff s.params).mp h.params .upLimit) : 1 ≤ s.params.upLimit ∧ s.params.upLimit ≤ 16).2

/-! ### What the laws read of the Credit Unit -/

/-- The admission side: its mode, o, and the totals r and g. -/
def count (c : CreditUnit) : Mode × Nat × Byte × Byte := (c.mode, c.o, c.r, c.g)

/-- The Credit Unit without its CREDIT frames still to send, which no law reads. -/
def terms (c : CreditUnit) : CreditUnit := { c with waiting := 0, refresh := none }

theorem Counted.of_count {s t : State} (hs : Counted s) (params : t.params = s.params)
    (config : t.node.state = .config → s.node.state = .config) (hcount : count t.credit = count s.credit)
    (view : t.credit.view ≤ 16) : Counted t := by
  simp only [count, Prod.mk.injEq] at hcount
  obtain ⟨hmode, ho, hr, hg⟩ := hcount
  refine ⟨params ▸ hs.params, ?_, fun h => ho.trans (hs.config (config h)), fun h => ?_, view⟩
  · rw [ho, params]; exact hs.limit
  · rw [ho, hr, hg]; exact hs.locked (hmode.symm.trans h)

/-! ### Laws carried over -/

/-- Each of the two laws holds of t where it holds of s. -/
structure Carries (s t : State) : Prop where
  counted : Counted s → Counted t
  unheld : Unheld s → Unheld t

namespace Carries

variable {s t u : State}

theorem refl (s : State) : Carries s s := ⟨id, id⟩

theorem trans (h : Carries s t) (k : Carries t u) : Carries s u := ⟨k.counted ∘ h.counted, k.unheld ∘ h.unheld⟩

theorem ite {p : Prop} [Decidable p] (h : p → Carries s t) (k : ¬ p → Carries s u) : Carries s (if p then t else u) := by
  split
  · next hp => exact h hp
  · next hp => exact k hp

/-- The laws read no more than the parameters, the node's state, the terms of the Credit Unit and the claims in the zone. -/
theorem of_terms (params : t.params = s.params) (config : t.node.state = .config → s.node.state = .config)
    (credit : terms t.credit = terms s.credit) (empty : t.node.state = .config → s.zone = [] → t.zone = [])
    (claims : Unclaimed s.zone → Unclaimed t.zone) : Carries s t where
  counted hs := by
    have hcount : count (terms t.credit) = count (terms s.credit) := congrArg count credit
    have hview : (terms t.credit).view = (terms s.credit).view := congrArg CreditUnit.view credit
    exact hs.of_count params config hcount (hview.trans_le hs.view)
  unheld hs := by
    have hhold : (terms t.credit).exitHold = (terms s.credit).exitHold := congrArg CreditUnit.exitHold credit
    refine ⟨fun h => empty h (hs.empty (config h)), fun h => hhold.trans (hs.hold (h.imp config ?_)), fun h => ?_⟩
    · rw [params]; exact id
    · exact claims (hs.claim (params ▸ h))

/-- An act on none of what the laws read. -/
theorem of_same (params : t.params = s.params) (node : t.node.state = s.node.state) (credit : terms t.credit = terms s.credit)
    (zone : t.zone = s.zone) : Carries s t :=
  of_terms params (fun h => node ▸ h) credit (fun _ hz => zone.trans hz) fun hu => zone.symm ▸ hu

/-- An act that touches neither the Credit Unit nor the zone list. -/
theorem of_records (h : RecordsOnly s t) (credit : t.credit = s.credit) (zone : t.zone = s.zone) : Carries s t :=
  of_same h.params (congrArg NodeControl.state h.node) (congrArg terms credit) zone

/-- An act on the zone list that brings no record and no claim. -/
theorem of_zone (h : RecordsOnly s t) (credit : t.credit = s.credit) (empty : s.zone = [] → t.zone = [])
    (claims : Unclaimed s.zone → Unclaimed t.zone) : Carries s t :=
  of_terms h.params (fun hc => h.node ▸ hc) (congrArg terms credit) (fun _ => empty) claims

/-- An act on the zone list in RUN or HALT that brings no claim. -/
theorem of_tracking (htracks : s.node.state ≠ .config) (h : RecordsOnly s t) (credit : t.credit = s.credit)
    (claims : Unclaimed s.zone → Unclaimed t.zone) : Carries s t :=
  of_terms h.params (fun hc => h.node ▸ hc) (congrArg terms credit)
    (fun hconfig => absurd ((congrArg NodeControl.state h.node).symm.trans hconfig) htracks) claims

theorem report (k : ReportKind) (d : Nat) (tag : BitVec 32) (order : BitVec 24) (s : State) :
    Carries s (s.report k d tag order) :=
  of_records (.report ..) (State.report_credit ..) (State.report_zone ..)

theorem reportIf (k : ReportKind) (d : Nat) (tag : BitVec 32) (order : BitVec 24) (s : State) :
    Carries s (Claims.reportIf k d tag order s) :=
  ite (fun _ => report ..) fun _ => refl s

theorem modSpur (i : Ix) (f : Spur → Spur) (s : State) : Carries s (s.modSpur i f) := .of_records rfl rfl rfl

theorem modBay (k : Ix) (f : Bay → Bay) (s : State) : Carries s (s.modBay k f) := .of_records rfl rfl rfl

theorem offer (e : EventCode) (c : Option Cls) (q : Option Nat) (s : State) : Carries s (s.offer e c q) :=
  .of_records rfl rfl rfl

end Carries

end Sys2Proof.Credits
end

section
/-! The Credit Unit's own acts keep its laws: claims and exits, grants, notices, CREDIT frames (R55 to R59, R136 to R149). -/

namespace Sys2Proof.Credits

open Sys2Proof.Machine Sys2Proof.Safety
open State (RecordsOnly)

/-! ### Claims (R145 to R149) -/

theorem count_clampView (c : CreditUnit) : count c.clampView = count c := by
  unfold CreditUnit.clampView
  split <;> rfl

theorem count_claim (c : CreditUnit) : count c.claim = count c := count_clampView _

theorem view_claim (c : CreditUnit) : c.claim.view ≤ 16 := CreditUnit.view_clampView _

/-- The walk over the zone list does no more to the Credit Unit than claim and set exit hold. -/
theorem claimWalk_keeps {p : CreditUnit → Prop} (hhold : ∀ c b, p c → p { c with exitHold := b })
    (hclaim : ∀ c, p c → p c.claim) (P : Pos) (hold : Nat) (l : List Tote) {c : CreditUnit} (hc : p c) :
    p (claimWalk P hold l c).2 := by
  induction l generalizing c with
  | nil => exact hhold c false hc
  | cons t l ih =>
    unfold claimWalk
    split
    · split
      · split
        · exact ih (hhold _ false (hclaim c hc))
        · exact hhold c true hc
      · exact hhold c false hc
    · exact ih hc
    · exact hhold c false hc

theorem claims_of_terminal {s : State} (h : s.params.terminal = 1) :
    s.claims = { s with credit := { s.credit with exitHold := false } } := if_pos h

theorem claims_of_not_terminal {s : State} (h : s.params.terminal ≠ 1) :
    s.claims.credit = (claimWalk s.pos.P s.params.holdPoint s.zone s.credit).2 := by
  rw [State.claims, if_neg h]

theorem count_claims (s : State) : count s.claims.credit = count s.credit := by
  by_cases h : s.params.terminal = 1
  · rw [claims_of_terminal h]; rfl
  · rw [claims_of_not_terminal h]
    exact claimWalk_keeps (p := fun c => count c = count s.credit) (fun _ _ hc => hc)
      (fun c hc => (count_claim c).trans hc) _ _ _ rfl

theorem view_claims {s : State} (h : s.credit.view ≤ 16) : s.claims.credit.view ≤ 16 := by
  by_cases hterminal : s.params.terminal = 1
  · rw [claims_of_terminal hterminal]; exact h
  · rw [claims_of_not_terminal hterminal]
    exact claimWalk_keeps (p := fun c => c.view ≤ 16) (fun _ _ hc => hc) (fun c _ => view_claim c) _ _ _ h

theorem claims_of_empty {s : State} (h : s.zone = []) : s.claims.zone = [] ∧ s.claims.credit.exitHold = false := by
  unfold State.claims
  split
  · exact ⟨h, rfl⟩
  · rw [h]; exact ⟨rfl, rfl⟩

theorem carries_claims (s : State) : Carries s s.claims where
  counted hs := by
    have hrecords := RecordsOnly.claims s
    exact hs.of_count hrecords.params (fun h => hrecords.node ▸ h) (count_claims s) (view_claims hs.view)
  unheld hs := by
    have hempty : s.claims.node.state = .config → s.zone = [] := fun h => hs.empty ((RecordsOnly.claims s).node ▸ h)
    have hterminal : s.claims.params.terminal = 1 → s.params.terminal = 1 := fun h => (RecordsOnly.claims s).params ▸ h
    refine ⟨fun h => (claims_of_empty (hempty h)).1, fun h => ?_, fun h => ?_⟩
    · rcases h with h | h
      · exact (claims_of_empty (hempty h)).2
      · rw [claims_of_terminal (hterminal h)]
    · rw [claims_of_terminal (hterminal h)]
      exact hs.claim (hterminal h)

/-! ### Exits (R55 to R59) -/

/-- A record that leaves ends its own exit hold, and takes a sequence number where it holds none and one is needed. -/
theorem exitFront_credit (t : Tote) (rest : List Tote) (s : State) : (s.exitFront t rest).credit =
    let c := { s.credit with exitHold := s.credit.exitHold && t.claim.isSome }
    if s.params.terminal = 1 ∨ t.claim.isSome = true then c else c.claim := by
  have hqueued : ∀ f (u : State), (u.queueNotice f).credit = u.credit := fun f u => by rw [State.queueNotice_frame]
  have hgone : (Entry.frontGone t rest s).credit = { s.credit with exitHold := s.credit.exitHold && t.claim.isSome } := by
    rw [Entry.frontGone, State.exitStillLand_frame]
  rw [Entry.exitFront_eq, ← hgone]
  by_cases hterminal : s.params.terminal = 1
  · rw [Entry.announceExit_of_terminal (by rwa [Entry.frontGone_params]), State.report_credit, if_pos (.inl hterminal)]
  · have hnot : (Entry.frontGone t rest s).params.terminal ≠ 1 := by rwa [Entry.frontGone_params]
    cases hclaim : t.claim with
    | some q => rw [Entry.announceExit_of_claim hnot hclaim, hqueued, if_pos (.inr rfl)]
    | none => rw [Entry.announceExit_of_no_claim hnot hclaim, hqueued, if_neg (by simp [hterminal])]

theorem carries_exitFront {s : State} {t : Tote} {rest : List Tote} (hz : s.zone = t :: rest) :
    Carries s (s.exitFront t rest) := by
  have hrecords := Entry.exitFront_records t rest s
  have hcredit := exitFront_credit t rest s
  simp only [] at hcredit
  refine ⟨fun hs => hs.of_count hrecords.params (fun h => hrecords.node ▸ h) ?_ ?_, fun hs => ?_⟩
  · rw [hcredit]
    split
    · rfl
    · exact count_claim _
  · rw [hcredit]
    split
    · exact hs.view
    · exact view_claim _
  · have htracks : (s.exitFront t rest).node.state ≠ .config := fun h => by
      rw [hs.empty (hrecords.node ▸ h)] at hz
      cases hz
    refine ⟨fun h => absurd h htracks, fun h => ?_, fun h => ?_⟩
    · have hterminal : s.params.terminal = 1 := hrecords.params ▸ h.resolve_left htracks
      rw [hcredit, if_pos (.inl hterminal), hs.hold (.inr hterminal)]
      rfl
    · rw [Entry.exitFront_zone]
      have hclaim := hs.claim (hrecords.params ▸ h)
      rw [hz] at hclaim
      exact (List.forall_mem_cons.mp hclaim).2

theorem carries_exitLoop (n : Nat) (s : State) : Carries s (State.exitLoop n s) := by
  induction n generalizing s with
  | zero => exact .refl s
  | succ n ih =>
    cases hz : s.zone with
    | nil => rw [Entry.exitLoop_of_empty hz]; exact .refl s
    | cons t rest =>
      rw [Entry.exitLoop_succ hz]
      exact .ite (fun _ => ((carries_exitFront hz).trans (carries_claims _)).trans (ih _)) fun _ => .refl s

theorem carries_exitTests (s : State) : Carries s s.exitTests := (carries_claims s).trans (carries_exitLoop ..)

/-! ### The admission side (R135 to R139) -/

/-- An act of the admission side that keeps its law. -/
theorem Carries.of_admission {s t : State} (h : RecordsOnly s t) (zone : t.zone = s.zone)
    (hold : t.credit.exitHold = s.credit.exitHold) (view : t.credit.view = s.credit.view)
    (limit : Counted s → t.credit.o ≤ s.params.upLimit) (config : Counted s → s.node.state = .config → t.credit.o = 0)
    (locked : Counted s → t.credit.mode = .locked → t.credit.o = (t.credit.g - t.credit.r).toNat) : Carries s t where
  counted hs :=
    ⟨h.params ▸ hs.params, h.params ▸ limit hs, fun hc => config hs (h.node ▸ hc), locked hs, view.trans_le hs.view⟩
  unheld hs := ⟨fun hc => zone.trans (hs.empty (h.node ▸ hc)), fun hc => hold.trans (hs.hold (h.node ▸ h.params ▸ hc)),
    fun hc => zone.symm ▸ hs.claim (h.params ▸ hc)⟩

theorem grantCount_le (s : State) : s.grantCount ≤ s.params.upLimit - s.credit.o := by
  unfold State.grantCount
  split
  · exact Nat.min_le_left ..
  · exact Nat.zero_le _

theorem grantCount_of_config {s : State} (h : s.node.state = .config) : s.grantCount = 0 :=
  if_neg (by simp [State.tracking, h])

theorem o_grantCredits (s : State) : s.grantCredits.credit.o = s.credit.o + s.grantCount := by
  change (s.credit.grant s.grantCount).o = _
  rw [Totes.grant_eq]

theorem view_grantCredits (s : State) : s.grantCredits.credit.view = s.credit.view := by
  change (s.credit.grant s.grantCount).view = _
  rw [Totes.grant_eq]
  rfl

/-- A grant raises o and, in LOCKED, g with it: never past UP_LIMIT, and never in CONFIG (R136). -/
theorem carries_grantCredits (s : State) : Carries s s.grantCredits := by
  have ho := o_grantCredits s
  have hle := grantCount_le s
  refine .of_admission rfl rfl (Nodes.exitHold_grant ..) (view_grantCredits s) (fun hs => ?_) (fun hs hconfig => ?_)
    fun hs hlocked => ?_
  · have hlimit := hs.limit
    omega
  · rw [ho, hs.config hconfig, grantCount_of_config hconfig]
  · have hcredit : s.grantCredits.credit = _ := Totes.grant_eq s.grantCount s.credit
    have hmode : s.credit.mode = .locked := by rw [hcredit] at hlocked; exact hlocked
    have hdiff := hs.locked hmode
    have hlimit := hs.limit
    have hmax := hs.upLimit_le
    rw [ho, hcredit]
    simp only [hmode, if_true]
    bv_omega

theorem carries_reTest (s : State) : Carries s s.reTest := by
  have harbitrated : Carries s s.arbitrate := by
    rw [State.arbitrate_frame]
    exact .of_records rfl rfl rfl
  exact harbitrated.trans (carries_grantCredits _)

/-! ### Notices (R138 to R140) -/

/-- A notice in SYNC takes a credit where there is one, and the totals are set to differ by those left (R138). -/
theorem carries_noticeInSync {s : State} (hsync : s.credit.mode = .sync) (q : Byte) (i : Ident) :
    Carries s (s.noticeInSync q i) := by
  have hrecords := State.admission_records q i s
  simp only [State.admission, hsync] at hrecords
  refine .of_admission hrecords ?_ rfl rfl (fun hs => ?_) (fun hs hconfig => ?_) fun hs _ => ?_
  · unfold State.noticeInSync
    simp only []
    split
    · exact State.report_zone ..
    · rfl
  · exact (Nat.sub_le s.credit.o 1).trans hs.limit
  · change s.credit.o - 1 = 0
    rw [hs.config hconfig]
  · change s.credit.o - 1 = (q + 1 + BitVec.ofNat 8 (s.credit.o - 1) - (q + 1)).toNat
    have hlimit := hs.limit
    have hmax := hs.upLimit_le
    bv_omega

/-- In LOCKED what is left of g − r after a notice is no more than was left before, or is overdrawn (R139). -/
theorem left_le {c : CreditUnit} {q : Byte} (hgap : (q - c.r).toNat < 128) (hleft : (c.g - (q + 1)).toNat < 128) :
    (c.g - (q + 1)).toNat < (c.g - c.r).toNat := by bv_omega

theorem carries_noticeLocked {s : State} {q : Byte} (hlocked : s.credit.mode = .locked) (hgap : (q - s.credit.r).toNat < 128)
    (i : Ident) : Carries s (s.noticeLocked q i) := by
  have hrecords := State.admission_records q i s
  simp only [State.admission, hlocked, CreditUnit.gapOf, Nat.not_le.mpr hgap, if_false] at hrecords
  have hreported : (Entry.gapReported q i s).zone = s.zone := by
    unfold Entry.gapReported
    simp only []
    split
    · rfl
    · exact State.report_zone ..
  by_cases hleft : (s.credit.g - (q + 1)).toNat < 128
  · rw [Entry.noticeLocked_within hleft] at hrecords ⊢
    have hless := left_le hgap hleft
    refine .of_admission hrecords hreported rfl rfl (fun hs => ?_) (fun hs hconfig => ?_) fun _ _ => rfl
    · have hlimit := hs.limit
      rw [hs.locked hlocked] at hlimit
      exact hless.le.trans hlimit
    · rw [← hs.locked hlocked, hs.config hconfig] at hless
      exact absurd hless (Nat.not_lt_zero _)
  · rw [Entry.noticeLocked_overdrawn (Nat.not_lt.mp hleft)] at hrecords ⊢
    have hzone : ((Entry.gapReported q i s).report .noticeBeyondCredit 1 i.tag i.order).zone = s.zone :=
      (State.report_zone ..).trans hreported
    refine .of_admission hrecords hzone rfl rfl (fun _ => Nat.zero_le _) (fun _ _ => rfl) fun _ _ => ?_
    change 0 = (q + 1 - (q + 1)).toNat
    rw [BitVec.sub_self]; rfl

theorem carries_trackNotice (i : Ident) (s : State) : Carries s (s.trackNotice i) := by
  unfold State.trackNotice
  split
  · exact .report ..
  · rw [State.dropOverdue_frame]
    exact .of_records rfl rfl rfl

theorem carries_takeNotice (q : Byte) (i : Ident) (s : State) : Carries s (s.takeNotice q i) := by
  have hcounted : ∀ {u : State}, Carries s u → Carries s (u.trackNotice i).reTest := fun h =>
    (h.trans (carries_trackNotice i _)).trans (carries_reTest _)
  cases hmode : s.credit.mode with
  | sync => rw [Entry.takeNotice_of_sync hmode]; exact hcounted (carries_noticeInSync hmode q i)
  | locked =>
    by_cases hgap : 128 ≤ (q - s.credit.r).toNat
    · rw [Entry.takeNotice_of_stale hmode hgap]; exact .report ..
    · rw [Entry.takeNotice_of_locked hmode (Nat.not_le.mp hgap)]
      exact hcounted (carries_noticeLocked hmode (Nat.not_le.mp hgap) i)

/-! ### CREDIT frames (R143 to R145) -/

/-- A Credit Unit with its exit side's view set anew and clamped. -/
theorem Carries.of_frame {c : CreditUnit} {s : State} (hcount : count c = count s.credit)
    (hhold : c.exitHold = s.credit.exitHold) : Carries s { s with credit := c.clampView } where
  counted hs := hs.of_count rfl id ((count_clampView c).trans hcount) (CreditUnit.view_clampView c)
  unheld hs := ⟨hs.empty, fun h => ((Nodes.exitHold_clampView c).trans hhold).trans (hs.hold h), hs.claim⟩

theorem carries_takeSync (value : Byte) (s : State) : Carries s (s.takeSync value) := by
  have hframe : Carries s { s with credit := s.credit.syncFrame value } := .of_frame rfl rfl
  exact (hframe.trans (carries_claims _)).trans (carries_reTest _)

theorem carries_takeLocked (g r : Byte) (s : State) : Carries s (s.takeLocked g r) := by
  have hresync : Carries s (s.reportResync g r) := .ite (fun _ => .report ..) fun _ => .refl s
  have hframe : ∀ u : State, Carries u { u with credit := u.credit.lockedFrame g r } := fun u => by
    refine .of_frame ?_ ?_ <;> split <;> rfl
  exact ((hresync.trans (hframe _)).trans (carries_claims _)).trans (carries_reTest _)

end Sys2Proof.Credits
end

section
/-! The blocks that track totes keep the laws of the Credit Unit: a record enters the zone without a claim (R43 to R55, R79 to
R92, R102 to R114). -/

namespace Sys2Proof.Credits

open Sys2Proof.Machine Sys2Proof.Claims Sys2Proof.Belt
open State (RecordsOnly)

/-! ### Expected list, pending tag, halts -/

theorem carries_expireTag (s : State) : Carries s s.expireTag := by
  rw [State.expireTag_frame]
  exact .of_records rfl rfl rfl

theorem carries_takeTag (s : State) : Carries s s.takeTag.2 := by
  unfold State.takeTag
  split <;> exact .of_records rfl rfl rfl

theorem carries_dropOverdue (s : State) : Carries s s.dropOverdue := by
  rw [State.dropOverdue_frame]
  exact .of_records rfl rfl rfl

theorem config_enterHalt {c : HaltCause} {s : State} (h : (s.enterHalt c).node.state = .config) : s.node.state = .config := by
  rw [State.enterHalt_node] at h
  split at h
  · cases h
  · exact h

theorem carries_enterHalt (c : HaltCause) (s : State) : Carries s (s.enterHalt c) := by
  have hzone : (s.enterHalt c).zone = s.zone := by rw [State.enterHalt_frame]
  refine .of_terms ?_ config_enterHalt ?_ (fun _ hz => hzone.trans hz) fun hu => hzone.symm ▸ hu <;>
    rw [State.enterHalt_frame]

theorem carries_jamTest (s : State) : Carries s s.jamTest :=
  .ite (fun _ => carries_enterHalt .jam s) fun _ => .refl s

theorem carries_stickSpur (i : Ix) (d : Nat) (s : State) : Carries s (s.stickSpur i d) := by
  rw [State.stickSpur_frame]
  exact .of_records rfl rfl rfl

/-! ### Divert tests (R80 to R86) -/

/-- A test of an ARMED record leaves it ARMED, CONFIRMING or RIDING without a claim. -/
theorem claim_testArmed {t : Tote} (ht : t.claim = none) (s : State) : (s.testArmed t).1.claim = none := by
  unfold State.testArmed
  split
  · split
    · rfl
    · split
      · split
        · rfl
        · split <;> rfl
        · exact ht
      · exact ht
  · exact ht

theorem credit_testArmed (t : Tote) (s : State) : (s.testArmed t).2.credit = s.credit := by rw [State.testArmed_frame]

theorem claim_testDivert {t : Tote} (ht : t.claim = none) (s : State) : (s.testDivert t).1.claim = none := by
  unfold State.testDivert
  split
  · split
    · rfl
    · exact ht
  · exact claim_testArmed ht s

section Divert

variable {test : Tote → State → Tote × State}

theorem unclaimed_walkZone (hclaim : ∀ {t : Tote}, t.claim = none → ∀ s, (test t s).1.claim = none) {l : List Tote}
    (hl : Unclaimed l) (s : State) : Unclaimed (walkZone test l s).1 := by
  induction l generalizing s with
  | nil => exact hl
  | cons t l ih =>
    obtain ⟨ht, hl⟩ := List.forall_mem_cons.mp hl
    exact List.forall_mem_cons.mpr ⟨hclaim ht s, ih hl _⟩

theorem carries_divertTests
    (hframe : ∀ t s, (test t s).2 = { s with
      bays := (test t s).2.bays, reports := (test t s).2.reports
      dropped := (test t s).2.dropped, counters := (test t s).2.counters })
    (hclaim : ∀ {t : Tote}, t.claim = none → ∀ s, (test t s).1.claim = none) (s : State) :
    Carries s (s.divertTests test) := by
  have hzone : (s.divertTests test).zone = (walkZone test s.zone s).1 := rfl
  refine .of_zone ?_ ?_ (fun hz => ?_) fun hu => unclaimed_walkZone hclaim hu s
  · rw [State.divertTests_frame hframe]; rfl
  · rw [State.divertTests_frame hframe]
  · rw [hzone, hz]; rfl

end Divert

theorem carries_positionChange (s : State) : Carries s s.positionChange :=
  have hdue : Carries s s.expireTag.dropOverdue := (carries_expireTag s).trans (carries_dropOverdue _)
  have hdiverted := carries_divertTests State.testDivert_frame claim_testDivert s.expireTag.dropOverdue.jamTest
  ((hdue.trans (carries_jamTest _)).trans hdiverted).trans ((carries_exitTests _).trans (carries_reTest _))

/-! ### Speed samples (R7 to R9, R80) -/

theorem claim_aimed (comp : Tri Nat) (t : Tote) : (aimed comp t).claim = t.claim := by
  unfold aimed
  cases h : t.track <;> simp [Tote.claim, h]

theorem carries_takeSample (s : State) : Carries s s.takeSample := by
  have hsampled : Carries s (sampled s) := .of_terms rfl id rfl (fun _ => id) id
  have hhalt : Carries (sampled s) (haltOnStall s) := .ite (fun _ => carries_enterHalt .stall _) fun _ => .refl _
  have haimed : ∀ u : State, Carries u (retargeted u) := fun u =>
    .of_zone rfl rfl (fun hz => by rw [retargeted, hz]; rfl) fun hu =>
      List.forall_mem_map.mpr fun t ht => (claim_aimed u.pos.comp t).trans (hu t ht)
  rw [takeSample_eq]
  exact (((hsampled.trans hhalt).trans (haimed _)).trans (carries_divertTests State.testArmed_frame claim_testArmed _)).trans
    ((carries_claims _).trans (carries_reTest _))

/-! ### The entry eye (R43 to R53) -/

theorem unclaimed_concat {l : List Tote} {t : Tote} (hl : Unclaimed l) (ht : t.claim = none) : Unclaimed (l ++ [t]) :=
  List.forall_mem_append.mpr ⟨hl, List.forall_mem_singleton.mpr ht⟩

theorem carries_appendEntering {s : State} (htracks : s.node.state ≠ .config) (lead : Pos) (i : Ident)
    (stray noRead : Bool) : Carries s (s.appendEntering lead i stray noRead) := by
  refine .of_tracking htracks (.appendEntering ..) ?_ fun hu => ?_
  · rw [State.appendEntering_frame]
  · unfold State.appendEntering
    simp only [State.offer_zone]
    rw [State.routeEffects_frame]
    exact unclaimed_concat hu rfl

theorem carries_arrive {s : State} (htracks : s.node.state ≠ .config) (stamp : Pos) (tag : Option (BitVec 32)) :
    Carries s (s.arrive stamp tag) := by
  unfold State.arrive
  split
  · next skipped n rest noRead _ =>
    have hnode : (({ s with expected := rest } : State).reportMissing 1 skipped).node = s.node := by
      rw [State.reportMissing_frame]
    refine Carries.trans ?_ (carries_appendEntering (by rwa [hnode]) ..)
    rw [State.reportMissing_frame]
    exact .of_records rfl rfl rfl
  · next t _ =>
    have hnode : ((s.report .stray 0 t 0).offer .stray (some .staged) (some 3)).node = s.node := State.report_node ..
    refine Carries.trans ?_ (carries_appendEntering (by rwa [hnode]) ..)
    exact (Carries.report .stray 0 t 0 s).trans (.of_records rfl rfl rfl)

theorem carries_entryLeading (e : Edge) (s : State) : Carries s (s.entryLeading e) := by
  unfold State.entryLeading
  refine .ite (fun _ => .refl s) fun hhonoured => .ite (fun _ => .refl s) fun _ => (carries_takeTag s).trans ?_
  have htracks : s.takeTag.2.node.state ≠ .config := (RecordsOnly.takeTag s).node ▸ Nodes.tracks_of_honours hhonoured
  exact .ite (fun _ => .report ..) fun _ =>
    ((carries_arrive htracks ..).trans (carries_dropOverdue _)).trans ((carries_exitTests _).trans (carries_reTest _))

theorem carries_mismatchReported (t : Tote) (len : Nat) (s : State) : Carries s (mismatchReported t len s) :=
  .ite (fun _ => .report ..) fun _ => .refl s

theorem mismatchReported_zone (t : Tote) (len : Nat) (s : State) : (mismatchReported t len s).zone = s.zone := by
  unfold mismatchReported
  split
  · exact State.report_zone ..
  · rfl

/-- The record measured at its trailing edge holds no claim. -/
theorem carries_closeEntering {s : State} (htracks : s.node.state ≠ .config) (stamp : Pos) (t : Tote) (d : Decision) :
    Carries s (s.closeEntering stamp s.zone.dropLast t d) := by
  have hnode := (recordsOnly_mismatchReported t (measuredLength t.lead stamp) s).node
  have hzone := mismatchReported_zone t (measuredLength t.lead stamp) s
  have htracks' : (mismatchReported t (measuredLength t.lead stamp) s).node.state ≠ .config := hnode ▸ htracks
  have hinit : Unclaimed (mismatchReported t (measuredLength t.lead stamp) s).zone → Unclaimed s.zone.dropLast :=
    fun hu y hy => hu y (hzone ▸ List.mem_of_mem_dropLast hy)
  refine (carries_mismatchReported t (measuredLength t.lead stamp) s).trans ?_
  cases d with
  | pass =>
    rw [closeEntering_pass]
    exact .of_tracking htracks' rfl rfl fun hu => unclaimed_concat (hinit hu) rfl
  | land k =>
    rw [closeEntering_land]
    refine .of_tracking htracks' (RecordsOnly.testArmed ..) ?_ fun hu => unclaimed_concat (hinit hu) (claim_testArmed rfl _)
    exact credit_testArmed ..

theorem carries_entryTrailing (e : Edge) (s : State) : Carries s (s.entryTrailing e) := by
  unfold State.entryTrailing
  refine .ite (fun _ => .refl s) fun hhonoured => ?_
  split
  · split
    · exact (carries_closeEntering (Nodes.tracks_of_honours hhonoured) ..).trans ((carries_claims _).trans (carries_reTest _))
    · exact .refl s
  · exact .refl s

/-! ### Gate eyes and spurs (R102 to R114) -/

theorem carries_loseFront (i : Ix) (d : Nat) (s : State) : Carries s (s.loseFront i d) := by
  unfold State.loseFront
  simp only []
  split
  · exact (Carries.modSpur ..).trans (.report ..)
  · exact .modSpur ..

theorem carries_gateBlocked (i : Ix) (s : State) : Carries s (s.gateBlocked i) := by
  refine .ite (fun _ => Carries.trans ?_ (carries_reTest _)) fun _ => .refl s
  unfold State.toteAtGate
  split
  · exact .modSpur ..
  · exact (Carries.modSpur ..).trans ((Carries.report ..).trans (.offer ..))

theorem carries_discardGranted (i : Ix) (g : Grant) (r : SpurRec) (why : ReportKind) (d : Nat) (s : State) :
    Carries s (s.discardGranted i g r why d) := by
  have hreleased : Carries s (s.releaseDecision g.decision) := by
    rw [State.releaseDecision_frame]
    exact .of_records rfl rfl rfl
  exact (hreleased.trans (.modSpur ..)).trans (.report ..)

theorem claim_mergedTote (s : State) (r : SpurRec) (g : Grant) : (s.mergedTote r g).claim = none := by
  unfold State.mergedTote Tote.claim
  cases g.decision <;> rfl

theorem unclaimed_insertByLead {t : Tote} {zone : List Tote} (ht : t.claim = none) (hu : Unclaimed zone) :
    Unclaimed (insertByLead t zone) := by
  obtain ⟨a, b, hzone, hplaced, -⟩ := insertByLead_place t zone
  rw [hzone] at hu
  obtain ⟨ha, hb⟩ := List.forall_mem_append.mp hu
  rw [hplaced]
  exact List.forall_mem_append.mpr ⟨ha, List.forall_mem_cons.mpr ⟨ht, hb⟩⟩

/-- An act on the zone list in RUN or HALT that brings no claim and at most releases the exit. -/
theorem Carries.of_release {s t : State} (htracks : s.node.state ≠ .config) (h : RecordsOnly s t) {held : Bool}
    (credit : t.credit = { s.credit with exitHold := s.credit.exitHold && held })
    (claims : Unclaimed s.zone → Unclaimed t.zone) : Carries s t where
  counted hs := hs.of_count h.params (fun hc => h.node ▸ hc) (by rw [credit]; rfl)
    ((show t.credit.view = s.credit.view by rw [credit]; rfl).trans_le hs.view)
  unheld hs := by
    have hfree : t.node.state ≠ .config := h.node ▸ htracks
    refine ⟨fun hc => absurd hc hfree, fun hc => ?_, fun hc => claims (hs.claim (h.params ▸ hc))⟩
    rw [credit, hs.hold (.inr (h.params ▸ hc.resolve_left hfree))]
    rfl

theorem carries_insertGranted {s : State} (htracks : s.node.state ≠ .config) (i : Ix) (g : Grant) (r : SpurRec) :
    Carries s (s.insertGranted i g r) := by
  have hreleased : Carries s ((s.modSpur i Spur.released).offer .mergeDone (some r.ident.cls) (some i.toNat)) :=
    (Carries.modSpur ..).trans (.offer ..)
  unfold State.insertGranted
  refine (hreleased.trans ?_).trans (carries_exitTests _)
  refine .of_release htracks (RecordsOnly.testArmed ..) (held := !becomesCandidate g.lead s.zone) ?_ fun hu =>
    unclaimed_insertByLead (claim_testArmed (claim_mergedTote ..) _) hu
  rw [State.testArmed_frame]
  rfl

theorem carries_gateReleased {s : State} (htracks : s.node.state ≠ .config) (i : Ix) (stamp : Pos) (g : Grant) :
    Carries s (s.gateReleased i stamp g) := by
  unfold State.gateReleased
  split
  · exact .refl s
  · exact .ite (fun _ => carries_discardGranted ..) fun _ => .ite (fun _ => carries_discardGranted ..) fun _ =>
      carries_insertGranted htracks ..

theorem carries_gateCleared (i : Ix) (e : Edge) (s : State) : Carries s (s.gateCleared i e) := by
  refine .ite (fun hacts => ?_) fun _ => .refl s
  split
  · exact carries_loseFront ..
  · exact (carries_gateReleased (Nodes.tracks_of_gateActs hacts) ..).trans (carries_reTest _)
  · exact .refl s

/-! ### Confirm and front eyes (R87 to R96) -/

theorem carries_assemblyLanding (k : Ix) (r : LandingRec) (s : State) : Carries s (s.assemblyLanding k r) := by
  rw [State.assemblyLanding_frame]
  exact .of_records rfl rfl rfl

theorem carries_landTote {k : Ix} {t : Tote} {rest : List Tote} {s : State} (h : takeConfirming k s.zone = some (t, rest)) :
    Carries s (s.landTote k t rest) := by
  obtain ⟨-, hrest⟩ := Totes.takeConfirming_split h
  have hlanded : Carries s (landedRecord k rest s) :=
    .of_zone rfl rfl (fun hz => List.sublist_nil.mp (hz ▸ hrest)) fun hu x hx => hu x (hrest.subset hx)
  by_cases hfull : 8 ≤ (s.bays.get k).landing.length
  · rw [landTote_full hfull]
    exact hlanded.trans ((Carries.reportIf ..).trans (.offer ..))
  · rw [landTote_room (Nat.not_le.mp hfull)]
    exact (hlanded.trans (.modBay ..)).trans
      (((Carries.reportIf ..).trans (.offer ..)).trans (carries_assemblyLanding ..))

theorem carries_confirmBlocked (k : Ix) (s : State) : Carries s (s.confirmBlocked k) := by
  have htimed : Carries s (s.startChuteJam k) := .modBay ..
  unfold State.confirmBlocked
  split
  · next htaken =>
    exact (htimed.trans (carries_landTote htaken)).trans ((carries_exitTests _).trans (carries_reTest _))
  · exact htimed.trans (.ite (fun _ => (Carries.modBay ..).trans (.report ..)) fun _ => .report ..)

theorem carries_confirmCleared (k : Ix) (s : State) : Carries s (s.confirmCleared k) :=
  .ite (fun _ => (Carries.modBay ..).trans (.report ..)) fun _ => .modBay ..

theorem carries_chuteJammed (k : Ix) (s : State) : Carries s (s.chuteJammed k) :=
  .ite (fun _ => .modBay ..) fun _ => (Carries.modBay ..).trans (.report ..)

theorem carries_frontCleared (k : Ix) (s : State) : Carries s (s.frontCleared k) := by
  unfold State.frontCleared
  split
  · exact .offer ..
  · rw [State.takeFront_frame]
    exact .of_records rfl rfl rfl

/-- Each eye's owner. -/
theorem carries_ownerOf (i : EyeId) (b : Bool) (e : Edge) (s : State) : Carries s (ownerOf i b e s) := by
  cases i <;> cases b
  · exact carries_entryTrailing e s
  · exact carries_entryLeading e s
  · exact carries_gateCleared _ e s
  · exact carries_gateBlocked _ s
  · exact carries_confirmCleared _ s
  · exact carries_confirmBlocked _ s
  · exact carries_frontCleared _ s
  · exact .refl s

end Sys2Proof.Credits
end

section
/-! Every step keeps the laws of the Credit Unit: requests, the transmitters, the clock and resets (R135 to R149, R154 to R161,
R177). -/

namespace Sys2Proof.Credits

open Sys2Proof.Machine Sys2Proof.Claims Sys2Proof.Belt Sys2Proof.Steps
open State (RecordsOnly)

/-! ### SET PARAMETERS (R177) -/

/-- UP_LIMIT and TERMINAL are of the CONFIG class: written where o is 0 and the zone is empty, and nowhere else (R176). -/
theorem carries_writePair {s : State} {x : Byte × Nat} (h : pairPasses x s) : Carries s (s.writePair x) := by
  obtain ⟨id, hid, hvalue, hclass⟩ := h
  have hparams : (s.writePair x).params = s.params.put id x.2 := by rw [writePair_params, hid]
  have hstate : (s.writePair x).node = s.node := by rw [writePair_frame]
  have hcredit : (s.writePair x).credit = s.credit := by rw [writePair_frame]
  have hzone : (s.writePair x).zone = s.zone := by rw [writePair_frame]
  by_cases hconfig : s.node.state = .config
  · refine ⟨fun hs => ⟨?_, ?_, ?_, ?_, ?_⟩, fun hs => ⟨fun _ => ?_, fun _ => ?_, fun _ => ?_⟩⟩
    · rw [hparams]; exact inRange_put hs.params hvalue
    · rw [hcredit, hs.config hconfig]; exact Nat.zero_le _
    · rw [hcredit, hstate]; exact hs.config
    · rw [hcredit]; exact hs.locked
    · rw [hcredit]; exact hs.view
    · rw [hzone]; exact hs.empty hconfig
    · rw [hcredit]; exact hs.hold (.inl hconfig)
    · rw [hzone, hs.empty hconfig]; exact List.forall_mem_nil _
  · have hkept : ∀ p : ParamId, p.configClass = true → (s.writePair x).params.get p = s.params.get p := fun p hp => by
      rw [hparams]
      exact get_put_of_ne _ _ fun hsame => hconfig (hclass (hsame ▸ hp))
    have hlimit : (s.writePair x).params.upLimit = s.params.upLimit := hkept .upLimit rfl
    have hterminal : (s.writePair x).params.terminal = s.params.terminal := hkept .terminal rfl
    refine ⟨fun hs => ⟨?_, ?_, ?_, ?_, ?_⟩, fun hs => ⟨?_, ?_, ?_⟩⟩
    · rw [hparams]; exact inRange_put hs.params hvalue
    · rw [hcredit, hlimit]; exact hs.limit
    · rw [hcredit, hstate]; exact hs.config
    · rw [hcredit]; exact hs.locked
    · rw [hcredit]; exact hs.view
    · rw [hzone, hstate]; exact hs.empty
    · rw [hcredit, hstate, hterminal]; exact hs.hold
    · rw [hzone, hterminal]; exact hs.claim

theorem carries_writePairs {l : List (Byte × Nat)} {s : State} (h : ∀ x ∈ l, pairPasses x s) :
    Carries s (l.foldl State.writePair s) := by
  induction l generalizing s with
  | nil => exact .refl s
  | cons x l ih =>
    obtain ⟨hx, hl⟩ := List.forall_mem_cons.mp h
    have hnode : (s.writePair x).node = s.node := by rw [writePair_frame]
    refine (carries_writePair hx).trans (ih fun y hy => ?_)
    unfold pairPasses
    rw [hnode]
    exact hl y hy

/-- A request that carries the laws over whatever its payload. -/
def CarriesLaws (op : Handler) : Prop := ∀ p s, Carries s (op p s).1

theorem carriesLaws_of_read {op : Handler} (h : ∀ p s, (op p s).1 = s) : CarriesLaws op := fun p s => by
  rw [h]; exact .refl s

theorem carriesLaws_setParameters : CarriesLaws reqSetParameters := fun p s => by
  unfold reqSetParameters
  split
  · split
    · exact .refl s
    · next hpass => exact carries_writePairs fun x hx => pairRefusal_eq_none_iff.mp (List.findSome?_eq_none_iff.mp hpass x hx)
  · exact .refl s

/-! ### Requests that leave the Credit Unit and the zone alone -/

theorem carriesLaws_routeWrite : CarriesLaws reqRouteWrite := fun p s => by
  unfold reqRouteWrite
  repeat' split
  all_goals exact .of_same rfl rfl rfl rfl

theorem carriesLaws_routeCommit : CarriesLaws reqRouteCommit := fun p s => by
  unfold reqRouteCommit
  split <;> exact .of_same rfl rfl rfl rfl

theorem carriesLaws_spurNotice : CarriesLaws reqSpurNotice := fun p s => by
  unfold reqSpurNotice
  repeat' split
  all_goals exact .of_same rfl rfl rfl rfl

theorem carriesLaws_counterSetup : CarriesLaws reqCounterSetup := fun p s => by
  unfold reqCounterSetup
  repeat' split
  all_goals exact .of_same rfl rfl rfl rfl

theorem carriesLaws_counterClear : CarriesLaws reqCounterClear := fun p s => by
  unfold reqCounterClear
  repeat' split
  all_goals exact .of_same rfl rfl rfl rfl

theorem carriesLaws_bayClear : CarriesLaws reqBayClear := fun p s => by
  unfold reqBayClear
  split
  · split
    · exact .refl s
    · split
      · exact .refl s
      · simp only []
        rw [State.takeMany_frame]
        exact .of_same rfl rfl rfl rfl
  · exact .refl s

theorem carriesLaws_spurRestore : CarriesLaws reqSpurRestore := fun p s => by
  have hrestored : ∀ i, Carries s (s.restoreSpur i) := fun i =>
    .ite (fun _ => (Carries.modSpur ..).trans (carries_reTest _)) fun _ => carries_loseFront ..
  unfold reqSpurRestore
  split
  · split
    · exact .refl s
    · split
      · exact hrestored _
      · exact .refl s
  · exact .refl s

/-! ### Node states (R154 to R157) -/

/-- START begins RUN in SYNC with o at 0, from a zone that CONFIG kept empty (R154). -/
theorem carries_startNode {s : State} (hconfig : s.node.state = .config) : Carries s s.startNode := by
  refine Carries.trans ⟨fun hs => ?_, fun hs => ?_⟩ (carries_reTest _)
  · exact ⟨hs.params, Nat.zero_le _, fun _ => rfl, nofun, hs.view⟩
  · exact ⟨nofun, fun _ => hs.hold (.inl hconfig), hs.claim⟩

theorem carriesLaws_start : CarriesLaws reqStart := fun p s => by
  unfold reqStart
  split
  · exact .refl s
  split
  · exact .refl s
  next hconfig =>
  split
  · exact .refl s
  split
  · exact .refl s
  · exact carries_startNode (not_not.mp hconfig)

theorem carriesLaws_halt : CarriesLaws reqHalt := fun p s => by
  unfold reqHalt
  split
  · exact .refl s
  · split
    · exact .refl s
    · exact .refl s
    · exact (carries_enterHalt .request s).trans (carries_reTest _)

theorem carriesLaws_resume : CarriesLaws reqResume := fun p s => by
  have hrun : Carries s { s with node := { s.node with state := .run, cause := .none } } :=
    .of_terms rfl nofun rfl (fun _ => id) id
  unfold reqResume
  split
  · exact .refl s
  split
  · exact .refl s
  split
  · exact .refl s
  · exact (hrun.trans (.report ..)).trans (carries_reTest _)

/-- CONFIG entry returns both credit sides to no credit and empties the zone (R157). -/
theorem carries_enterConfig (s : State) : Carries s s.enterConfig := by
  have hzone : s.enterConfig.zone = [] := State.report_zone ..
  have hparams : s.enterConfig.params = s.params := State.report_params ..
  have hview : s.enterConfig.credit.view = 0 := congrArg BitVec.toNat (BitVec.sub_self _)
  refine ⟨fun hs => ⟨hparams ▸ hs.params, Nat.zero_le _, fun _ => rfl, nofun, ?_⟩,
    fun _ => ⟨fun _ => hzone, fun _ => rfl, fun _ => ?_⟩⟩
  · rw [hview]; exact Nat.zero_le _
  · rw [hzone]; exact List.forall_mem_nil _

theorem carriesLaws_config : CarriesLaws reqConfig := fun p s => by
  unfold reqConfig
  split
  · exact .refl s
  split
  · exact .refl s
  · exact carries_enterConfig s

theorem carriesLaws_handlerOf (kind : Byte) : CarriesLaws (handlerOf kind) := by
  unfold handlerOf
  split
  · exact carriesLaws_of_read Totes.reqInquire_state
  · exact carriesLaws_setParameters
  · exact carriesLaws_of_read Totes.reqReadParameters_state
  · exact carriesLaws_routeWrite
  · exact carriesLaws_routeCommit
  · exact carriesLaws_of_read Totes.reqRouteRead_state
  · exact carriesLaws_spurNotice
  · exact carriesLaws_spurRestore
  · exact carriesLaws_bayClear
  · exact carriesLaws_of_read Totes.reqListRead_state
  · exact carriesLaws_counterSetup
  · exact carriesLaws_of_read Totes.reqCounterRead_state
  · exact carriesLaws_counterClear
  · exact carriesLaws_start
  · exact carriesLaws_halt
  · exact carriesLaws_resume
  · exact carriesLaws_config
  · exact carriesLaws_of_read Totes.reqNodeReset_state
  · exact carriesLaws_of_read fun _ _ => rfl

/-! ### Transmitters, the clock and resets -/

/-- Of the Credit Unit a frame that starts takes a waiting CREDIT frame alone (R169). -/
theorem terms_startFrame (p : Port) (c : Choice) (s : State) : terms (s.startFrame p c).credit = terms s.credit := by
  unfold State.startFrame
  split
  · rfl
  · split <;> rfl
  · split <;> rfl
  · split <;> rfl
  · rfl

theorem terms_pump (p : Port) (s : State) : terms (s.pump p).credit = terms s.credit := by
  unfold State.pump
  split
  · rfl
  · split
    · exact terms_startFrame ..
    · rfl

theorem carries_finish (s : State) : Carries s s.finish :=
  .of_same (State.finish_params s) (congrArg NodeControl.state (State.finish_node s))
    ((terms_pump .D _).trans (terms_pump .U _)) (by rw [State.finish_frame])

/-- A reset leaves no credit, no record and the default parameters (R151, R161). -/
theorem carries_resetPart (s : State) : Carries s s.resetPart where
  counted _ := ⟨(by decide : Params.default.inRange = true), Nat.zero_le _, fun _ => rfl, nofun,
    (by decide : State.reset.credit.view ≤ 16)⟩
  unheld _ := ⟨fun _ => rfl, fun _ => rfl, fun _ => List.forall_mem_nil _⟩

theorem carries_of_wiresOnly {s t : State} (h : WiresOnly s t) : Carries s t := by
  rw [h]
  exact .of_same rfl rfl rfl rfl

/-! ### Every step -/

/-- Each act of the commands carries both laws over. -/
theorem carries_act {s t : State} (h : Act s t) : Carries s t := by
  cases h with
  | wires h => exact carries_of_wiresOnly h
  | finish => exact carries_finish s
  | reset => exact carries_resetPart s
  | request kind p => exact carriesLaws_handlerOf kind p s
  | notice q i => exact carries_takeNotice q i s
  | sync value => exact carries_takeSync value s
  | locked g r => exact carries_takeLocked g r s
  | move => exact carries_positionChange s
  | halt => exact (carries_enterHalt _ s).trans (carries_reTest _)
  | speed => exact carries_takeSample s
  | owner i b e => exact carries_ownerOf i b e s
  | paddle | chime | lamp => exact .modBay ..
  | gate => exact .modSpur ..
  | @release i => exact ((carries_stickSpur i i.toNat s).trans (.modSpur ..)).trans (carries_reTest _)
  | jam => exact carries_chuteJammed _ s
  | refresh | tick => exact .of_same rfl rfl rfl rfl

/-- Settles O57: a grant stops at UP_LIMIT and raises g with o, a notice in LOCKED lowers g − r to what is left or to 0, CONFIG
entry and START set o to 0, and every change of the exit side's view is clamped; no other act touches them. -/
theorem stepsKeepCreditsSound : Obligations.StepsKeepCreditsSound := by
  unfold Obligations.StepsKeepCreditsSound
  intro s t hparams hcredits hstep
  exact ((counted_iff t).mpr
    (kept_of_acts (fun h => (carries_act h).counted) hstep ((counted_iff s).mp ⟨hparams, hcredits⟩))).2

/-- Settles O58: on a terminal node claims and exits make no claim and set no hold, records enter the zone without one, and
TERMINAL is written in CONFIG alone, where the zone is empty. -/
theorem stepsKeepTerminalNodesUnheld : Obligations.StepsKeepTerminalNodesUnheld := by
  unfold Obligations.StepsKeepTerminalNodesUnheld
  intro s t hconfig hterminal hstep
  exact (kept_of_acts (fun h => (carries_act h).unheld) hstep (unheld_of_quiet hconfig hterminal)).terminalQuiet

end Sys2Proof.Credits
end

section
/-! CREDIT frames and CONFIG entry (R142 to R145, R157, R170). -/

namespace Sys2Proof.Credits

open Sys2Proof.Machine Sys2Proof.Claims

/-! ### CREDIT frames (R143, R144) -/

/-- The clamp of R145 as a value for G. -/
theorem clampView_eq (c : CreditUnit) : c.clampView = { c with G := if 16 < (c.G - c.s).toNat then c.s else c.G } := by
  unfold CreditUnit.clampView
  by_cases hover : 16 < (c.G - c.s).toNat
  · rw [if_pos hover]; exact if_pos hover
  · rw [if_neg hover]; exact if_neg hover

/-- The value of a SYNC frame is the view it sets. -/
theorem syncFrame_eq (value : Byte) (c : CreditUnit) : c.syncFrame value =
    { c with G := if 16 < value.toNat then c.s else c.s + value, unsynced := false } := by
  have hview : c.s + value - c.s = value := by rw [BitVec.add_comm, BitVec.add_sub_cancel]
  rw [CreditUnit.syncFrame, clampView_eq]
  simp only [hview]

theorem mustResync_iff (g : Byte) (c : CreditUnit) : c.mustResync g = true ↔ c.unsynced = true ∨ 16 < (g - c.s).toNat := by
  rw [CreditUnit.mustResync, Bool.or_eq_true, decide_eq_true_iff]; rfl

theorem lockedFrame_of_resync {g : Byte} {c : CreditUnit} (h : c.mustResync g = true) (r : Byte) : c.lockedFrame g r =
    { c with G := if 16 < (g - r).toNat then r else g, s := r, unsynced := false } := by
  rw [CreditUnit.lockedFrame, if_pos h, clampView_eq]

/-- A frame that calls for no resynchronisation shows a view that needs no clamp. -/
theorem lockedFrame_of_not_resync {g : Byte} {c : CreditUnit} (h : ¬ c.mustResync g = true) (r : Byte) :
    c.lockedFrame g r = { c with G := g } := by
  have hview : ¬ 16 < (g - c.s).toNat := fun hover => h ((mustResync_iff g c).mpr (.inr hover))
  rw [CreditUnit.lockedFrame, if_neg h, clampView_eq, if_neg hview]

theorem reportResync_of_synced {g : Byte} {s : State} (h : s.credit.mustResync g = true) (hsynced : s.credit.unsynced = false)
    (r : Byte) : s.reportResync g r = s.report .creditResync (r - s.credit.s).toNat 0 0 := by
  simp [State.reportResync, h, hsynced]

theorem reportResync_of_unsynced {s : State} (h : s.credit.unsynced = true) (g r : Byte) : s.reportResync g r = s := by
  simp [State.reportResync, h]

theorem reportResync_of_not_resync {g : Byte} {s : State} (h : ¬ s.credit.mustResync g = true) (r : Byte) :
    s.reportResync g r = s := by
  simp [State.reportResync, h]

/-- Settles O29: whether a LOCKED frame resynchronises is told by unsynced and the view it would set, and the clamp decides G. -/
theorem creditFramesSetTheView : Obligations.CreditFramesSetTheView := by
  unfold Obligations.CreditFramesSetTheView
  intro s s' c
  have hlocked : ∀ g r, exec (.creditLocked g r) s = .next (s'.takeLocked g r).finish := fun _ _ => rfl
  refine ⟨fun v x => ?_, fun g r => ⟨fun hsynced hview => ?_, fun hsynced hover => ?_, fun hunsynced => ?_⟩⟩
  · rw [← syncFrame_eq]; rfl
  · have hstands : ¬ s'.credit.mustResync g = true := fun h =>
      ((mustResync_iff g c).mp h).elim (ne_true_of_eq_false hsynced) (Nat.not_lt.mpr hview)
    rw [hlocked, State.takeLocked, reportResync_of_not_resync hstands, lockedFrame_of_not_resync hstands]
  · have hresync : s'.credit.mustResync g = true := (mustResync_iff g c).mpr (.inr hover)
    rw [hlocked, State.takeLocked, reportResync_of_synced hresync hsynced, State.report_credit, lockedFrame_of_resync hresync]
  · have hresync : s'.credit.mustResync g = true := (mustResync_iff g c).mpr (.inl hunsynced)
    rw [hlocked, State.takeLocked, reportResync_of_unsynced hunsynced, lockedFrame_of_resync hresync]

/-! ### CONFIG entry (R157) -/

/-- The report of CONFIG entry is of the records counted before it, and of nothing else that changes. -/
theorem enterConfig_eq (s : State) : s.enterConfig =
    ({ s with
      expected := [], zone := [],
      spurs := s.spurs.map fun (x : Spur) => { x with st := .empty, list := [], gateTimer := none, releaseTimer := none },
      bays := s.bays.map fun (b : Bay) => { b with reserved := 0, paddle := none },
      credit := { s.credit with mode := .sync, o := 0, G := s.credit.s, unsynced := true, exitHold := false },
      node := { s.node with state := .config, cause := .none } } : State).report .discarded
        (s.expected.length + s.zone.length) 0 0 := by
  unfold State.enterConfig State.report
  simp only []
  split <;> rfl

theorem view_enterConfig (s : State) : viewOf s.enterConfig.credit = 0 := congrArg BitVec.toNat (BitVec.sub_self _)

theorem budget_enterConfig (s : State) : s.enterConfig.budget = 0 := by
  have hexpected : s.enterConfig.expected = [] := State.report_expected ..
  have hzone : s.enterConfig.zone = [] := State.report_zone ..
  rw [State.budget, hexpected, hzone]
  rfl

/-- Settles O26: the handlers' answers to CONFIG and NODE RESET, delivered, and what CONFIG entry leaves on the outputs. -/
theorem configEntryEmptiesTheZoneSide : Obligations.ConfigEntryEmptiesTheZoneSide := by
  unfold Obligations.ConfigEntryEmptiesTheZoneSide
  intro q s hq hempty s'
  refine ⟨fun htracks => ⟨s'.enterConfig, ?_, enterConfig_eq s', budget_enterConfig s', view_enterConfig s', rfl, rfl, rfl⟩,
    fun hconfig => ?_, ?_⟩
  · exact Routes.answer_of_handler 0x20 hq (by rw [hempty, reqConfig, if_neg (not_not.mpr rfl), if_neg htracks]; rfl)
  · exact Totes.answer_of_read 0x20 hq (by rw [hempty, reqConfig, if_neg (not_not.mpr rfl), if_pos hconfig]; rfl)
  · exact Totes.answer_of_read 0x21 hq (by rw [hempty, reqNodeReset, if_neg (not_not.mpr rfl), Belt.byte_code]; rfl)

end Sys2Proof.Credits
end

section
/-! The transmit arbiters, the report queue and the frames they start (R137, R168, R169, R172, R179, R180). -/

namespace Sys2Proof.Transmit

open Sys2Proof.Machine Sys2Proof.Claims

/-! ### What waits (R168) -/

section Sources

variable {s : State} {p : Port}

theorem credit_waits_iff : s.sourceWaits p .credit = true ↔ p = .U ∧ 0 < s.credit.waiting := by
  simp [State.sourceWaits]

theorem notice_waits_iff : s.sourceWaits p .notice = true ↔ p = .D ∧ s.lines.notices ≠ [] := by
  simp [State.sourceWaits]

theorem response_waits_iff : s.sourceWaits p .response = true ↔ (s.lines.get p).responses ≠ [] := by
  simp [State.sourceWaits]

theorem forward_waits_iff : s.sourceWaits p .forward = true ↔ (s.lines.get p).fwd ≠ [] := by
  simp [State.sourceWaits]

theorem report_waits_iff : s.sourceWaits p .report = true ↔ p = .U ∧ (s.reports ≠ [] ∨ 0 < s.dropped) := by
  simp [State.sourceWaits]

/-! ### The choice (R169) -/

/-- The forward queue has been passed four times. -/
def Urgent (s : State) (p : Port) : Prop := 4 ≤ (s.lines.get p).passed ∧ (s.lines.get p).fwd ≠ []

theorem choose_of_urgent (h : Urgent s p) : s.choose p = some .forward := by
  obtain ⟨hpassed, hwaits⟩ := h
  exact if_pos ⟨hpassed, forward_waits_iff.mpr hwaits⟩

theorem choose_by_priority (h : ¬ Urgent s p) :
    s.choose p = [Choice.credit, .notice, .response, .forward, .report].find? (s.sourceWaits p) :=
  if_neg fun ⟨hpassed, hwaits⟩ => h ⟨hpassed, forward_waits_iff.mp hwaits⟩

section Priority

variable (hurgent : ¬ Urgent s p)

include hurgent

theorem choose_credit (h : p = .U ∧ 0 < s.credit.waiting) : s.choose p = some .credit := by
  rw [choose_by_priority hurgent, List.find?_cons_of_pos (credit_waits_iff.mpr h)]

variable (hcredit : ¬ (p = .U ∧ 0 < s.credit.waiting))

include hcredit

theorem choose_after_credit :
    s.choose p = [Choice.notice, .response, .forward, .report].find? (s.sourceWaits p) := by
  rw [choose_by_priority hurgent, List.find?_cons_of_neg (mt credit_waits_iff.mp hcredit)]

theorem choose_notice (h : p = .D ∧ s.lines.notices ≠ []) : s.choose p = some .notice := by
  rw [choose_after_credit hurgent hcredit, List.find?_cons_of_pos (notice_waits_iff.mpr h)]

variable (hnotice : ¬ (p = .D ∧ s.lines.notices ≠ []))

include hnotice

theorem choose_after_notice : s.choose p = [Choice.response, .forward, .report].find? (s.sourceWaits p) := by
  rw [choose_after_credit hurgent hcredit, List.find?_cons_of_neg (mt notice_waits_iff.mp hnotice)]

theorem choose_response (h : (s.lines.get p).responses ≠ []) : s.choose p = some .response := by
  rw [choose_after_notice hurgent hcredit hnotice, List.find?_cons_of_pos (response_waits_iff.mpr h)]

variable (hresponse : (s.lines.get p).responses = [])

include hresponse

theorem choose_after_response : s.choose p = [Choice.forward, .report].find? (s.sourceWaits p) := by
  rw [choose_after_notice hurgent hcredit hnotice,
    List.find?_cons_of_neg (mt response_waits_iff.mp (not_not.mpr hresponse))]

theorem choose_forward (h : (s.lines.get p).fwd ≠ []) : s.choose p = some .forward := by
  rw [choose_after_response hurgent hcredit hnotice hresponse, List.find?_cons_of_pos (forward_waits_iff.mpr h)]

end Priority

section Reports

variable (hcredit : ¬ (p = .U ∧ 0 < s.credit.waiting)) (hnotice : ¬ (p = .D ∧ s.lines.notices ≠ []))
  (hresponse : (s.lines.get p).responses = []) (hforward : (s.lines.get p).fwd = [])

include hcredit hnotice hresponse hforward

theorem choose_after_forward : s.choose p = [Choice.report].find? (s.sourceWaits p) := by
  have hurgent : ¬ Urgent s p := fun ⟨_, hwaits⟩ => hwaits hforward
  rw [choose_after_response hurgent hcredit hnotice hresponse,
    List.find?_cons_of_neg (mt forward_waits_iff.mp (not_not.mpr hforward))]

theorem choose_report (h : p = .U ∧ (s.reports ≠ [] ∨ 0 < s.dropped)) : s.choose p = some .report := by
  rw [choose_after_forward hcredit hnotice hresponse hforward, List.find?_cons_of_pos (report_waits_iff.mpr h)]

theorem choose_nothing (h : ¬ (p = .U ∧ (s.reports ≠ [] ∨ 0 < s.dropped))) : s.choose p = none := by
  rw [choose_after_forward hcredit hnotice hresponse hforward, List.find?_cons_of_neg (mt report_waits_iff.mp h)]
  rfl

end Reports

/-! ### The arbiter (R169) -/

theorem pump_of_busy (h : (s.lines.get p).tx.isSome = true) : s.pump p = s := by
  obtain ⟨f, hf⟩ := Option.isSome_iff_exists.mp h
  simp only [State.pump, hf]

theorem pump_of_choice {c : Choice} (hfree : (s.lines.get p).tx = none) (hc : s.choose p = some c) :
    s.pump p = s.startFrame p c := by
  simp only [State.pump, hfree, hc]

theorem pump_of_nothing (hfree : (s.lines.get p).tx = none) (hc : s.choose p = none) : s.pump p = s := by
  simp only [State.pump, hfree, hc]

end Sources

/-! ### The frames (R137, R172, R180) -/

theorem startLocal_eq (f : OutFrame) (x : LinePort) : x.startLocal f =
    { x with tx := some f, passed := if x.fwd = [] then x.passed else x.passed + 1 } := by
  rw [LinePort.startLocal, if_congr List.isEmpty_iff rfl rfl]

theorem creditFrame_eq (s : State) : s.creditFrame = ⟨0x3E, byte s.node.address, 0x02, 0x00,
    if s.credit.mode = .sync then [0x01, byte s.credit.o, 0x00] else [0x02, s.credit.g, s.credit.r]⟩ := by
  unfold State.creditFrame
  cases s.credit.mode <;> rfl

/-- The table of R172 gives each report kind its code. -/
theorem lookup_reportCodes (k : ReportKind) : (reportCodes.lookup k).getD 0x00 = byte k.code := by cases k <;> rfl

theorem bytes_eq_entryBytes (r : Report) : r.bytes = entryBytes r := by
  rw [Report.bytes, entryBytes, lookup_reportCodes, Totes.be32_toNat, Totes.be24_toNat]

theorem reportFrame_eq (s : State) : s.reportFrame = ⟨0x00, byte s.node.address, 0x03, s.lines.seq,
    [byte s.dropped, byte (s.reports.take 4).length] ++ (s.reports.take 4).flatMap entryBytes⟩ := by
  rw [← funext bytes_eq_entryBytes]; rfl

/-! ### Starting a frame -/

theorem startFrame_forward {p : Port} {s : State} {f : Frame} {rest : List Frame} (h : (s.lines.get p).fwd = f :: rest) :
    s.startFrame p .forward =
      { s with lines := s.lines.put p { s.lines.get p with tx := some ⟨f, false⟩, fwd := rest, passed := 0 } } := by
  simp only [State.startFrame, h]; rfl

theorem startFrame_notice {s : State} {f : Frame} {rest : List Frame} (h : s.lines.notices = f :: rest) :
    s.startFrame .D .notice =
      ({ s with lines := { s.lines with notices := rest } } : State).modPort .D (LinePort.startLocal ⟨f, false⟩) := by
  simp only [State.startFrame, h]

theorem startFrame_response {p : Port} {s : State} {f : OutFrame} {rest : List OutFrame}
    (h : (s.lines.get p).responses = f :: rest) :
    s.startFrame p .response = s.modPort p fun x => { x.startLocal f with responses := rest } := by
  simp only [State.startFrame, h]

/-- Settles O44: what waits at a port fixes its arbiter's choice, source by source, and the choice fixes the frame and what it
takes from its source. -/
theorem transmittersTakeWhatWaits : Obligations.TransmittersTakeWhatWaits := by
  unfold Obligations.TransmittersTakeWhatWaits
  refine ⟨fun k d tag order s => ⟨fun hroom => if_pos hroom, fun hfull => if_neg (Nat.not_lt.mpr hfull)⟩, fun p s => ?_,
    fun s => rfl, fun p s => ⟨fun hidle => ?_, fun f hf hstays => ?_⟩⟩
  · intro x start credit notice urgent
    refine ⟨pump_of_busy, fun hfree hurgent f rest hfwd => ?_, fun hfree hurgent hcredit => ?_,
      fun hfree hurgent hnotice f rest hnotices => ?_, fun hfree hurgent hcredit hnotice f rest hresponses => ?_,
      fun hfree hurgent hcredit hnotice hresponses f rest hfwd => ?_,
      fun hfree hcredit hnotice hresponses hfwd => ⟨fun hU hwaits => ?_, fun hnone => ?_⟩⟩
    · rw [pump_of_choice hfree (choose_of_urgent hurgent), startFrame_forward hfwd]
    · rw [pump_of_choice hfree (choose_credit hurgent hcredit), State.startFrame, State.modPort, startLocal_eq, creditFrame_eq]
    · obtain ⟨rfl, hsome⟩ := hnotice
      have hchoice := choose_notice hurgent (fun ⟨hU, _⟩ => nomatch hU) ⟨rfl, hsome⟩
      rw [pump_of_choice hfree hchoice, startFrame_notice hnotices, State.modPort, startLocal_eq]
      rfl
    · have hsome : (s.lines.get p).responses ≠ [] := fun h => nomatch h.symm.trans hresponses
      rw [pump_of_choice hfree (choose_response hurgent hcredit hnotice hsome), startFrame_response hresponses, State.modPort,
        startLocal_eq]
    · have hsome : (s.lines.get p).fwd ≠ [] := fun h => nomatch h.symm.trans hfwd
      rw [pump_of_choice hfree (choose_forward hurgent hcredit hnotice hresponses hsome), startFrame_forward hfwd]
    · rw [pump_of_choice hfree (choose_report hcredit hnotice hresponses hfwd ⟨hU, hwaits⟩)]
      subst hU
      rw [State.startFrame, State.modPort, startLocal_eq, reportFrame_eq]
      rfl
    · refine pump_of_nothing hfree (choose_nothing hcredit hnotice hresponses hfwd fun ⟨hU, hwaits⟩ => ?_)
      rcases hnone with rfl | ⟨hreports, hdropped⟩
      · cases hU
      · exact hwaits.elim (fun h => h hreports) (Nat.ne_of_gt · hdropped)
  · change Host.Outcome.next _ = _
    simp only [hidle]
  · change Host.Outcome.next _ = _
    simp only [hf, hstays, Bool.false_eq_true, if_false]
    rfl

end Sys2Proof.Transmit
end

section
/-! Emergency-stop edges and the HALT and RESUME requests (R153, R155, R156). -/

namespace Sys2Proof.Halts

open Sys2Proof.Machine Sys2Proof.Claims

/-! ### Emergency-stop edges (R153) -/

section Edges

variable {s : State}

/-- An input already ACTIVE has no assertion (log 4). -/
theorem execEStopAssertion_of_active (h : s.node.estopActive = true) : execEStopAssertion s = .next s := by
  rw [execEStopAssertion, if_pos h]

/-- An input already INACTIVE has no release (log 4). -/
theorem execEStopRelease_of_inactive (h : s.node.estopActive = false) : execEStopRelease s = .next s := by
  rw [execEStopRelease, if_neg (ne_true_of_eq_false h)]

theorem execEStopRelease_of_active (h : s.node.estopActive = true) : execEStopRelease s =
    .next { s with node := { s.node with estopActive := false, estopCount := 0 } }.finish := by
  rw [execEStopRelease, if_pos h]

variable (hinactive : s.node.estopActive = false)

include hinactive

theorem execEStopAssertion_of_run (h : s.node.state = .run) : execEStopAssertion s =
    .next (({ s with node := { s.node with estopActive := true, estopCount := 0 } }.enterHalt .eStop).reTest).finish := by
  rw [execEStopAssertion, if_neg (ne_true_of_eq_false hinactive), h]

theorem execEStopAssertion_of_not_run (h : s.node.state ≠ .run) : execEStopAssertion s =
    .next { s with node := { s.node with estopActive := true, estopCount := 0 } }.finish := by
  rw [execEStopAssertion, if_neg (ne_true_of_eq_false hinactive)]
  cases hstate : s.node.state with
  | run => exact absurd hstate h
  | config => rfl
  | halt => rfl

end Edges

/-- Settles O12: whether the input stands so already tells an edge from none, and the node state tells what an assertion does. -/
theorem emergencyStopEdges : Obligations.EmergencyStopEdges := by
  unfold Obligations.EmergencyStopEdges
  intro s
  have hassertion : exec .eStopAssertion s = execEStopAssertion s := rfl
  have hrelease : exec .eStopRelease s = execEStopRelease s := rfl
  rw [hassertion, hrelease]
  exact ⟨execEStopAssertion_of_active, execEStopRelease_of_inactive, execEStopAssertion_of_run,
    execEStopAssertion_of_not_run, execEStopRelease_of_active⟩

/-! ### HALT and RESUME (R155, R156) -/

section Requests

variable {s : State}

theorem reqHalt_of_run (h : s.node.state = .run) : reqHalt [] s = ((s.enterHalt .request).reTest, [0x00, 0x02]) := by
  rw [reqHalt, if_neg (not_not.mpr rfl), h]
  rfl

theorem reqHalt_of_halt (h : s.node.state = .halt) : reqHalt [] s = (s, [0x00, 0x02]) := by
  rw [reqHalt, if_neg (not_not.mpr rfl), h]
  rfl

theorem reqHalt_of_config (h : s.node.state = .config) : reqHalt [] s = (s, [0x03, 0x00, 0xFF]) := by
  rw [reqHalt, if_neg (not_not.mpr rfl), h, wrongState, h]
  rfl

theorem reqResume_of_not_halt (h : s.node.state ≠ .halt) : reqResume [] s = (s, [0x03, nodeCode s.node.state, 0xFF]) := by
  rw [reqResume, if_neg (not_not.mpr rfl), if_pos h, ← Belt.byte_code]
  rfl

variable (hhalt : s.node.state = .halt)

include hhalt

theorem reqResume_of_present (h : s.presentCauses ≠ 0) : reqResume [] s = (s, [0x08, byte s.presentCauses, 0xFF]) := by
  rw [reqResume, if_neg (not_not.mpr rfl), if_neg (not_not.mpr hhalt), if_pos h]
  rfl

theorem reqResume_of_none_present (h : s.presentCauses = 0) : reqResume [] s = (s.resumeNode, [0x00, 0x01]) := by
  rw [reqResume, if_neg (not_not.mpr rfl), if_neg (not_not.mpr hhalt), if_neg (not_not.mpr h)]
  rfl

end Requests

/-- Settles O25: each case of the two requests is its handler's, delivered; the causes present are those the handler sums. -/
theorem haltAndResumeRequests : Obligations.HaltAndResumeRequests := by
  unfold Obligations.HaltAndResumeRequests
  intro q s hq hempty s' present
  refine ⟨fun hrun => ?_, fun hhalt => ?_, fun hconfig => ?_, fun hhalt hnone => ?_, fun hhalt hpresent => ?_, fun hstate => ?_⟩
  · exact Routes.answer_of_handler 0x1E hq (hempty ▸ reqHalt_of_run hrun)
  · exact Totes.answer_of_read 0x1E hq (hempty ▸ reqHalt_of_halt hhalt)
  · exact Totes.answer_of_read 0x1E hq (hempty ▸ reqHalt_of_config hconfig)
  · exact Routes.answer_of_handler 0x1F hq (hempty ▸ reqResume_of_none_present hhalt hnone)
  · exact Totes.answer_of_read 0x1F hq (hempty ▸ reqResume_of_present hhalt hpresent)
  · exact Totes.answer_of_read 0x1F hq (hempty ▸ reqResume_of_not_halt hstate)

end Sys2Proof.Halts
end

section
/-! The law of queues and frames: what of a state it reads, and the single changes that keep it (R137, R163, R167 to R169, R172,
R179, R181). -/

namespace Sys2Proof.Queues

open Sys2Proof.Machine Sys2Proof.Safety Sys2Proof.Claims

/-! ### What the law reads -/

/-- The queues of frames and of report entries, their counts, and the event counters. -/
structure Traffic where
  lines : Lines
  waiting : Nat
  reports : List Report
  dropped : Nat
  counters : List Counter

def trafficOf (s : State) : Traffic := ⟨s.lines, s.credit.waiting, s.reports, s.dropped, s.counters⟩

/-- The law at one port. -/
structure PortFits (x : LinePort) : Prop where
  fwd : x.fwd.length ≤ 8
  responses : x.responses.length ≤ 4
  passed : x.passed ≤ 4
  fwdFrames : ∀ f ∈ x.fwd, frameFits f
  responseFrames : ∀ f ∈ x.responses, frameFits f.frame
  sending : ∀ f ∈ x.tx, frameFits f.frame

/-- The law by its parts. -/
structure Traffic.Fits (x : Traffic) : Prop where
  port : ∀ p, PortFits (x.lines.get p)
  notices : x.lines.notices.length ≤ 8
  noticeFrames : ∀ f ∈ x.lines.notices, frameFits f
  waiting : x.waiting ≤ 16
  reports : x.reports.length ≤ 16
  dropped : x.dropped ≤ 255
  four : x.counters.length = 4
  values : ∀ c ∈ x.counters, c.value ≤ 4294967295

/-- The law of queues and frames. -/
abbrev Fits (s : State) : Prop := (trafficOf s).Fits

theorem forall_ports {p : Port → Prop} : (∀ q ∈ ports, p q) ↔ ∀ q, p q :=
  ⟨fun h q => h q (by cases q <;> decide), fun h q _ => h q⟩

theorem fits_iff (s : State) : QueuesFit s ∧ FramesFit s ↔ Fits s := by
  unfold QueuesFit FramesFit
  rw [forall_ports, forall_ports]
  constructor
  · rintro ⟨⟨hport, hnotices, hwaiting, hreports, hdropped⟩, hframes, hnotice, hfour, hvalues⟩
    refine ⟨fun p => ?_, hnotices, hnotice, hwaiting, hreports, hdropped, hfour, hvalues⟩
    obtain ⟨hfwd, hresponses, hpassed⟩ := hport p
    obtain ⟨hfwdFrames, hresponseFrames, hsending⟩ := hframes p
    exact ⟨hfwd, hresponses, hpassed, hfwdFrames, hresponseFrames, hsending⟩
  · intro h
    exact ⟨⟨fun p => ⟨(h.port p).fwd, (h.port p).responses, (h.port p).passed⟩, h.notices, h.waiting, h.reports,
        h.dropped⟩,
      fun p => ⟨(h.port p).fwdFrames, (h.port p).responseFrames, (h.port p).sending⟩, h.noticeFrames, h.four, h.values⟩

theorem fits_reset : Fits State.reset := by
  obtain ⟨-, hqueues, hframes, -⟩ := Totes.resetMeetsEveryLaw
  exact (fits_iff State.reset).mp ⟨hqueues, hframes⟩

namespace Fits

variable {s : State}

theorem of_same {t : State} (hs : Fits s) (h : trafficOf t = trafficOf s) : Fits t := by rwa [Fits, h]

/-! ### Reports and events (R179, R181) -/

theorem report {k : ReportKind} {d : Nat} {tag : BitVec 32} {order : BitVec 24} (hs : Fits s) :
    Fits (s.report k d tag order) := by
  unfold State.report
  split
  · next hroom =>
    have hlength : (s.reports ++ [Report.mk k (byte d) tag order]).length ≤ 16 := by
      rw [List.length_append]; exact hroom
    exact { hs with reports := hlength }
  · exact { hs with dropped := min_le_left .. }

theorem reportIf {k : ReportKind} {d : Nat} {tag : BitVec 32} {order : BitVec 24} (hs : Fits s) :
    Fits (reportIf k d tag order s) := by
  unfold Claims.reportIf
  split
  · exact hs.report
  · exact hs

/-- Each counter of a state that fits is changed by f, which raises none above the ceiling. -/
theorem countersMapped {f : Counter → Counter} (hf : ∀ c, c.value ≤ 4294967295 → (f c).value ≤ 4294967295)
    (hs : Fits s) :
    Fits { s with counters := s.counters.map f } where
  __ := hs
  four := (List.length_map f).trans hs.four
  values := List.forall_mem_map.mpr fun c hc => hf c (hs.values c hc)

theorem offer {e : EventCode} {k : Option Cls} {q : Option Nat} (hs : Fits s) : Fits (s.offer e k q) := by
  refine hs.countersMapped fun c hc => ?_
  unfold Counter.offered
  split
  · exact min_le_left ..
  · exact hc

/-! ### Ports and the NOTICE queue (R137, R163, R167, R168) -/

theorem modPort {p : Port} {f : LinePort → LinePort} (hf : PortFits (f (s.lines.get p))) (hs : Fits s) :
    Fits (s.modPort p f) where
  port q := by
    change PortFits ((s.modPort p f).lines.get q)
    rw [State.modPort_lines_get]
    split
    · next h => exact h ▸ hf
    · exact hs.port q
  notices := by
    change (s.modPort p f).lines.notices.length ≤ 8
    rw [State.modPort, Lines.put_notices]
    exact hs.notices
  noticeFrames := by
    change ∀ g ∈ (s.modPort p f).lines.notices, frameFits g
    rw [State.modPort, Lines.put_notices]
    exact hs.noticeFrames
  waiting := hs.waiting
  reports := hs.reports
  dropped := hs.dropped
  four := hs.four
  values := hs.values

/-- What a receiver holds is no part of the law. -/
theorem withRx {p : Port} {rx : RxState} (hs : Fits s) : Fits (s.modPort p fun x => { x with rx := rx }) :=
  hs.modPort { hs.port p with }

theorem frameArrives (p : Port) (hs : Fits s) : Fits (s.frameArrives p) := by
  unfold State.frameArrives
  split
  · exact hs
  · exact hs.withRx.offer

/-- The forward queue drops what finds 8 waiting (R167). -/
theorem forward (p : Port) {f : Frame} (hf : frameFits f) (hs : Fits s) : Fits (s.forward p f) := by
  unfold State.forward
  split
  · next hroom =>
    refine hs.modPort { hs.port p with fwd := ?_, fwdFrames := ?_ }
    · rw [List.length_append]; exact hroom
    · exact List.forall_mem_append.mpr ⟨(hs.port p).fwdFrames, List.forall_mem_singleton.mpr hf⟩
  · exact hs.offer

/-- The NOTICE queue discards what finds 8 waiting (R168). -/
theorem queueNotice {f : Frame} (hf : frameFits f) (hs : Fits s) : Fits (s.queueNotice f) := by
  unfold State.queueNotice
  split
  · next hroom =>
    refine { hs with port := fun p => ?_, notices := ?_, noticeFrames := ?_ }
    · cases p
      · exact hs.port .U
      · exact hs.port .D
    · exact (List.length_append ..).trans_le hroom
    · exact List.forall_mem_append.mpr ⟨hs.noticeFrames, List.forall_mem_singleton.mpr hf⟩
  · exact hs.offer

/-- Requests for CREDIT frames are counted up to 16 (R137). -/
theorem withCredit {c : CreditUnit} (hc : c.waiting ≤ 16) (hs : Fits s) : Fits { s with credit := c } :=
  { hs with waiting := hc }

theorem grantCredits (hs : Fits s) : Fits s.grantCredits := by
  rw [State.grantCredits, Totes.grant_eq]
  exact hs.withCredit (min_le_left ..)

end Fits

end Sys2Proof.Queues
end

section
/-! The blocks' acts keep the law of queues and frames: they report, offer events, request CREDIT frames and queue NOTICEs, each
within its bound (R4, R39 to R59, R66 to R118, R121 to R157). -/

namespace Sys2Proof.Queues

open Sys2Proof.Machine Sys2Proof.Safety Sys2Proof.Claims Sys2Proof.Belt

/-! ### Acts that leave queues and frames alone -/

theorem trafficOf_releaseDecision (d : Decision) (s : State) : trafficOf (s.releaseDecision d) = trafficOf s := by
  cases d <;> rfl

theorem trafficOf_reserve (d : Decision) (s : State) : trafficOf (s.reserve d) = trafficOf s := by cases d <;> rfl

theorem trafficOf_takeTag (s : State) : trafficOf s.takeTag.2 = trafficOf s := by
  unfold State.takeTag
  split <;> rfl

theorem waiting_claim (c : CreditUnit) : c.claim.waiting = c.waiting := by
  unfold CreditUnit.claim CreditUnit.clampView
  split <;> rfl

theorem waiting_claims (s : State) : s.claims.credit.waiting = s.credit.waiting := by
  by_cases hterminal : s.params.terminal = 1
  · rw [Credits.claims_of_terminal hterminal]
  · rw [Credits.claims_of_not_terminal hterminal]
    exact Credits.claimWalk_keeps (p := fun c => c.waiting = s.credit.waiting) (fun _ _ h => h)
      (fun c h => (waiting_claim c).trans h) _ _ _ rfl

/-- A NOTICE has 11 or 14 payload bytes (R172). -/
theorem frameFits_noticeFrame (s : State) (q : Byte) (i : Ident) : frameFits (s.noticeFrame q i) := by
  change (noticePayload q i).length ≤ 60
  rw [Totes.length_noticePayload]
  split <;> decide

namespace Fits

variable {s : State}

theorem claims (hs : Fits s) : Fits s.claims := by
  rw [State.claims_frame]
  exact hs.withCredit ((waiting_claims s).trans_le hs.waiting)

theorem missEffects {c : MissCause} {k : Ix} {i : Ident} (hs : Fits s) : Fits (s.missEffects c k i) :=
  offer (report (hs.of_same rfl))

theorem reportMissing {d : Nat} {ns : List Notice} (hs : Fits s) : Fits (s.reportMissing d ns) := by
  unfold State.reportMissing
  induction ns generalizing s with
  | nil => exact hs
  | cons n ns ih => exact ih hs.report.offer

theorem dropOverdue (hs : Fits s) : Fits s.dropOverdue := reportMissing (hs.of_same rfl)

theorem expireTag (hs : Fits s) : Fits s.expireTag := by
  unfold State.expireTag
  split
  · exact offer (hs.of_same rfl)
  · exact hs

/-! ### Exits (R55 to R59) -/

theorem announceExit (t : Tote) (hs : Fits s) : Fits (s.announceExit t) := by
  have hsequence : Fits (s.exitSequence t).2 := by
    unfold State.exitSequence
    split
    · exact hs
    · exact hs.withCredit ((waiting_claim s.credit).trans_le hs.waiting)
  unfold State.announceExit
  split
  · exact hs.report
  · exact hsequence.queueNotice (frameFits_noticeFrame ..)

theorem exitFront (t : Tote) (rest : List Tote) (hs : Fits s) : Fits (s.exitFront t rest) := by
  refine announceExit t ?_
  unfold State.exitStillLand
  split
  · exact hs.of_same rfl
  · exact missEffects (hs.of_same rfl)

theorem exitLoop (n : Nat) (hs : Fits s) : Fits (State.exitLoop n s) := by
  induction n generalizing s with
  | zero => exact hs
  | succ n ih =>
    unfold State.exitLoop
    split
    · exact hs
    · split
      · exact ih (hs.exitFront ..).claims
      · exact hs

theorem exitTests (hs : Fits s) : Fits s.exitTests := hs.claims.exitLoop _

/-! ### Route decisions and grants (R66 to R73, R106 to R109, R136) -/

theorem routeEffects {i : Ident} {stray : Bool} {o : RouteOutcome} (hs : Fits s) : Fits (s.routeEffects i stray o) := by
  unfold State.routeEffects
  split
  · split
    · exact hs
    · exact hs.report
  · split
    · exact hs.report.offer
    · exact hs.of_same (trafficOf_reserve ..)

theorem grantSpur (i : Ix) (hs : Fits s) : Fits (s.grantSpur i) := by
  unfold State.grantSpur
  split
  · exact hs
  · exact hs.routeEffects.of_same rfl

theorem reTest (hs : Fits s) : Fits s.reTest := by
  refine grantCredits ?_
  unfold State.arbitrate
  simp only []
  split
  · exact hs
  · exact grantSpur _ (hs.of_same rfl)

/-! ### Halts, changes of P, speed samples (R4, R80 to R86, R114, R155) -/

theorem stickSpur (i : Ix) (d : Nat) (hs : Fits s) : Fits (s.stickSpur i d) := by
  unfold State.stickSpur
  split
  · simp only []
    split
    · exact report (hs.of_same (trafficOf_releaseDecision ..))
    · exact hs.of_same (trafficOf_releaseDecision ..)
  · exact hs

theorem enterHalt (c : HaltCause) (hs : Fits s) : Fits (s.enterHalt c) := by
  by_cases hrun : s.node.state = .run
  · have hstate : Fits { s with node := { s.node with state := .halt, cause := c } } := hs.of_same rfl
    have hreported := hstate.report (k := .halted) (d := c.code) (tag := 0) (order := 0)
    have hcut : Fits (Nodes.pulsesCut c s) := hreported.of_same rfl
    rw [Nodes.enterHalt_of_run hrun]
    exact ((hcut.stickSpur ..).stickSpur ..).stickSpur ..
  · rwa [State.enterHalt_of_not_run hrun]

theorem testArmed (t : Tote) (hs : Fits s) : Fits (s.testArmed t).2 := by
  unfold State.testArmed
  split
  · split
    · exact hs.missEffects
    · split
      · split
        · exact hs.missEffects
        · split
          · exact hs.missEffects
          · exact hs.of_same rfl
        · exact hs
      · exact hs
  · exact hs

theorem testDivert (t : Tote) (hs : Fits s) : Fits (s.testDivert t).2 := by
  unfold State.testDivert
  split
  · split
    · exact hs.missEffects
    · exact hs
  · exact hs.testArmed t

theorem divertTests {test : Tote → State → Tote × State} (htest : ∀ t {u : State}, Fits u → Fits (test t u).2)
    (hs : Fits s) :
    Fits (s.divertTests test) := by
  have hwalk : ∀ (l : List Tote) {u : State}, Fits u → Fits (walkZone test l u).2 := fun l => by
    induction l with
    | nil => exact id
    | cons t l ih => exact fun hu => ih (htest t hu)
  exact (hwalk s.zone hs).of_same rfl

theorem jamTest (hs : Fits s) : Fits s.jamTest := by
  unfold State.jamTest
  split
  · exact hs.enterHalt .jam
  · exact hs

theorem positionChange (hs : Fits s) : Fits s.positionChange :=
  (hs.expireTag.dropOverdue.jamTest.divertTests fun t _ hu => hu.testDivert t).exitTests.reTest

theorem takeSample (hs : Fits s) : Fits s.takeSample := by
  have hsampled : Fits (sampled s) := hs.of_same rfl
  have hhalted : Fits (haltOnStall s) := by
    unfold haltOnStall
    split
    · exact hsampled.enterHalt .stall
    · exact hsampled
  have haimed : Fits (retargeted (haltOnStall s)) := hhalted.of_same rfl
  rw [takeSample_eq]
  exact (haimed.divertTests fun t _ hu => hu.testArmed t).claims.reTest

/-! ### The entry eye (R43 to R53) -/

theorem arrive (stamp : Pos) (tag : Option (BitVec 32)) (hs : Fits s) : Fits (s.arrive stamp tag) := by
  have happended : ∀ {u : State} {i stray noRead}, Fits u → Fits (u.appendEntering stamp i stray noRead) :=
    fun hu => offer (routeEffects (hu.of_same rfl))
  unfold State.arrive
  split
  · exact happended (reportMissing (hs.of_same rfl))
  · exact happended hs.report.offer

theorem entryLeading (e : Edge) (hs : Fits s) : Fits (s.entryLeading e) := by
  have htag : Fits s.takeTag.2 := hs.of_same (trafficOf_takeTag s)
  unfold State.entryLeading
  split
  · exact hs
  split
  · exact hs
  split
  · exact htag.report
  · exact (htag.arrive ..).dropOverdue.exitTests.reTest

theorem closeEntering (stamp : Pos) (init : List Tote) (t : Tote) (d : Decision) (hs : Fits s) :
    Fits (s.closeEntering stamp init t d) := by
  have hreported : ∀ len, Fits (mismatchReported t len s) := fun len => by
    unfold mismatchReported
    split
    · exact hs.report
    · exact hs
  cases d with
  | pass => rw [closeEntering_pass]; exact (hreported _).of_same rfl
  | land k => rw [closeEntering_land]; exact ((hreported _).testArmed _).of_same rfl

theorem entryTrailing (e : Edge) (hs : Fits s) : Fits (s.entryTrailing e) := by
  unfold State.entryTrailing
  split
  · exact hs
  split
  · split
    · exact (hs.closeEntering ..).claims.reTest
    · exact hs
  · exact hs

/-! ### Gate eyes (R102 to R112) -/

theorem loseFront (i : Ix) (d : Nat) (hs : Fits s) : Fits (s.loseFront i d) := by
  unfold State.loseFront
  simp only []
  split
  · exact report (hs.of_same rfl)
  · exact hs.of_same rfl

theorem gateBlocked (i : Ix) (hs : Fits s) : Fits (s.gateBlocked i) := by
  have hatGate : Fits (s.toteAtGate i) := by
    unfold State.toteAtGate
    split
    · exact hs.of_same rfl
    · exact offer (report (hs.of_same rfl))
  unfold State.gateBlocked
  split
  · exact hatGate.reTest
  · exact hs

theorem discardGranted (i : Ix) (g : Grant) (r : SpurRec) (why : ReportKind) (d : Nat) (hs : Fits s) :
    Fits (s.discardGranted i g r why d) :=
  report (hs.of_same (trafficOf_releaseDecision ..))

theorem insertGranted (i : Ix) (g : Grant) (r : SpurRec) (hs : Fits s) : Fits (s.insertGranted i g r) := by
  have hmerged : Fits ((s.modSpur i Spur.released).offer .mergeDone (some r.ident.cls) (some i.toNat)) :=
    offer (hs.of_same rfl)
  exact exitTests ((hmerged.testArmed _).of_same rfl)

theorem gateReleased (i : Ix) (stamp : Pos) (g : Grant) (hs : Fits s) : Fits (s.gateReleased i stamp g) := by
  unfold State.gateReleased
  split
  · exact hs
  split
  · exact hs.discardGranted ..
  split
  · exact hs.discardGranted ..
  · exact hs.insertGranted ..

theorem gateCleared (i : Ix) (e : Edge) (hs : Fits s) : Fits (s.gateCleared i e) := by
  unfold State.gateCleared
  split
  · split
    · exact hs.loseFront ..
    · exact (hs.gateReleased ..).reTest
    · exact hs
  · exact hs

/-! ### Landings (R87 to R89, R122 to R125) -/

theorem singleLanding (k : Ix) (r : LandingRec) (hs : Fits s) : Fits (s.singleLanding k r) := report (hs.of_same rfl)

theorem degradedLanding (why : ReportKind) (k : Ix) (r : LandingRec) (hs : Fits s) : Fits (s.degradedLanding why k r) :=
  singleLanding k r (report (hs.of_same rfl))

theorem countLanding (k : Ix) (r : LandingRec) (e : GroupEntry) (hs : Fits s) : Fits (s.countLanding k r e) := by
  unfold State.countLanding
  simp only []
  split
  · exact report (hs.of_same rfl)
  · exact hs.of_same rfl

theorem assemblyLanding (k : Ix) (r : LandingRec) (hs : Fits s) : Fits (s.assemblyLanding k r) := by
  unfold State.assemblyLanding
  split
  · exact hs.singleLanding ..
  · split
    · split
      · exact hs.degradedLanding ..
      · exact hs.countLanding ..
    · split
      · exact countLanding _ _ _ (hs.of_same rfl)
      · exact hs.degradedLanding ..

theorem landTote (k : Ix) (t : Tote) (rest : List Tote) (hs : Fits s) : Fits (s.landTote k t rest) := by
  by_cases hfull : 8 ≤ (s.bays.get k).landing.length
  · rw [landTote_full hfull]
    exact offer (reportIf (hs.of_same rfl))
  · rw [landTote_room (Nat.not_le.mp hfull)]
    exact assemblyLanding _ _ (offer (reportIf (hs.of_same rfl)))

theorem confirmBlocked (k : Ix) (hs : Fits s) : Fits (s.confirmBlocked k) := by
  have hjam : Fits (s.startChuteJam k) := hs.of_same rfl
  unfold State.confirmBlocked
  split
  · exact (hjam.landTote ..).exitTests.reTest
  · unfold State.landUnexpected
    split
    · exact report (hjam.of_same rfl)
    · exact hjam.report

theorem confirmCleared (k : Ix) (hs : Fits s) : Fits (s.confirmCleared k) := by
  unfold State.confirmCleared
  simp only []
  split
  · exact report (hs.of_same rfl)
  · exact hs.of_same rfl

theorem chuteJammed (k : Ix) (hs : Fits s) : Fits (s.chuteJammed k) := by
  unfold State.chuteJammed
  simp only []
  split
  · exact hs.of_same rfl
  · exact report (hs.of_same rfl)

/-! ### Taken totes (R94, R97, R126 to R128) -/

theorem assemblyTaken (k : Ix) (r : LandingRec) (hs : Fits s) : Fits (s.assemblyTaken k r) := by
  have hcounted : ∀ e, Fits (Totes.memberCounted k e s) := fun e => by
    unfold Totes.memberCounted
    split <;> exact hs.of_same rfl
  unfold State.assemblyTaken
  split
  · exact report (hs.of_same rfl)
  · split
    · rw [Totes.memberTaken_eq]
      split
      · exact report ((hcounted _).of_same rfl)
      · exact hcounted _
    · exact hs

theorem takeFront (k : Ix) (d : Nat) (hs : Fits s) : Fits (s.takeFront k d) := by
  cases hlane : (s.bays.get k).landing with
  | nil => rwa [Lanes.takeFront_of_empty hlane]
  | cons r rest =>
    have htaken : Fits (Lanes.frontTaken k d r rest s) := reportIf (hs.of_same rfl)
    rw [Lanes.takeFront_of_cons hlane]
    split
    · exact htaken
    · exact htaken.assemblyTaken k r

theorem takeMany (k : Ix) (d n : Nat) (hs : Fits s) : Fits (State.takeMany k d n s) := by
  induction n generalizing s with
  | zero => exact hs
  | succ n ih => exact ih (hs.takeFront k d)

theorem frontCleared (k : Ix) (hs : Fits s) : Fits (s.frontCleared k) := by
  unfold State.frontCleared
  split
  · exact hs.offer
  · exact hs.takeFront ..

theorem ownerOf (i : EyeId) (b : Bool) (e : Edge) (hs : Fits s) : Fits (ownerOf i b e s) := by
  cases i <;> cases b
  · exact hs.entryTrailing e
  · exact hs.entryLeading e
  · exact hs.gateCleared _ e
  · exact hs.gateBlocked _
  · exact hs.confirmCleared _
  · exact hs.confirmBlocked _
  · exact hs.frontCleared _
  · exact hs

/-! ### Notices and credits (R39, R138 to R148) -/

theorem admission (q : Byte) (i : Ident) (hs : Fits s) : Fits (s.admission q i).1 := by
  have hreported : ∀ (c : Prop) [Decidable c] k d, Fits (if c then s.report k d i.tag i.order else s) := fun c _ k d => by
    split
    · exact hs.report
    · exact hs
  have hcredit : ∀ {u : State} (c : CreditUnit), c.waiting = s.credit.waiting → Fits u → Fits { u with credit := c } :=
    fun c hc hu => hu.withCredit (hc.trans_le hs.waiting)
  unfold State.admission
  split
  · exact hcredit _ rfl (hreported ..)
  · split
    · exact hs.report
    · unfold State.noticeLocked
      simp only []
      split
      · exact hcredit _ rfl (report (hreported ..))
      · exact hcredit _ rfl (hreported ..)

theorem takeNotice (q : Byte) (i : Ident) (hs : Fits s) : Fits (s.takeNotice q i) := by
  have htracked : ∀ {u : State}, Fits u → Fits (u.trackNotice i) := fun hu => by
    unfold State.trackNotice
    split
    · exact hu.report
    · exact dropOverdue (hu.of_same rfl)
  unfold State.takeNotice
  simp only []
  split
  · exact (htracked (hs.admission ..)).reTest
  · exact hs.admission ..

theorem takeSync (value : Byte) (hs : Fits s) : Fits (s.takeSync value) := by
  refine reTest (claims (hs.withCredit ?_))
  rw [Credits.syncFrame_eq]
  exact hs.waiting

theorem takeLocked (g r : Byte) (hs : Fits s) : Fits (s.takeLocked g r) := by
  have hresync : Fits (s.reportResync g r) := by
    unfold State.reportResync
    split
    · exact hs.report
    · exact hs
  refine reTest (claims (hresync.withCredit ?_))
  by_cases hmust : (s.reportResync g r).credit.mustResync g = true
  · rw [Credits.lockedFrame_of_resync hmust]
    exact hresync.waiting
  · rw [Credits.lockedFrame_of_not_resync hmust]
    exact hresync.waiting

/-! ### Node states (R154 to R157) -/

theorem startNode (hs : Fits s) : Fits s.startNode := reTest (hs.of_same rfl)

theorem resumeNode (hs : Fits s) : Fits s.resumeNode := reTest (report (hs.of_same rfl))

theorem enterConfig (hs : Fits s) : Fits s.enterConfig := by
  have hreported : Fits (({ s with expected := [], zone := [] } : State).report .discarded
      (s.expected.length + s.zone.length) 0 0) := report (hs.of_same rfl)
  exact hreported.of_same rfl

/-! ### The clock and resets (R18, R19, R161, R181) -/

theorem tick (hs : Fits s) : Fits s.tick := by
  have hcounters : Fits { s with counters := s.counters.map fun c => c.add (s.tickAmount c) } :=
    hs.countersMapped fun _ _ => min_le_left ..
  exact hcounters.of_same rfl

theorem resetPart : Fits s.resetPart := fits_reset.of_same rfl

theorem samplePeriod (hs : Fits s) : Fits s.samplePeriod := hs.of_same (by rw [samplePeriod_frame]; rfl)

end Fits

end Sys2Proof.Queues
end

section
/-! The requests keep the law of queues and frames, leave the lines alone, and answer with what a frame can carry (R36, R65, R168,
R172 to R183). -/

namespace Sys2Proof.Queues

open Sys2Proof.Machine Sys2Proof.Safety Sys2Proof.Claims Sys2Proof.Belt

/-! ### Lengths of what a response carries (R172, R174) -/

/-- Items of at most n bytes each, written one after another. -/
theorem length_flatMap_le {α : Type} {f : α → List Byte} {n : Nat} (h : ∀ a, (f a).length ≤ n) (l : List α) :
    (l.flatMap f).length ≤ n * l.length := by
  induction l with
  | nil => exact Nat.zero_le _
  | cons a l ih =>
    rw [List.flatMap_cons, List.length_append, List.length_cons, Nat.mul_succ]
    have ha := h a
    omega

theorem length_encodeRoute (e : RouteEntry) : (encodeRoute e).length = 2 := by cases e <;> rfl

theorem length_readPair_le (s : State) (id : Byte) : ((s.readPair id).getD []).length ≤ 3 := by
  unfold State.readPair
  cases ParamId.ofByte id with
  | none => exact Nat.zero_le 3
  | some p => exact le_rfl

theorem length_groupBytes (g : Option GroupPart) : (groupBytes g).length = 3 := by cases g <;> rfl

/-- The bytes of a list record are 18 (R172). -/
def Whole (r : ListRecord) : Prop := r.bytes.length = 18

theorem whole_notice (n : Notice) : Whole n.listRecord := by
  unfold Whole Notice.listRecord
  simp only [List.length_append, length_groupBytes]
  rfl

theorem whole_zone (t : Tote) : Whole t.listRecord := by
  unfold Whole Tote.listRecord
  simp only [List.length_append, length_groupBytes]
  rfl

theorem whole_spur (r : SpurRec) (g : Option Grant) : Whole (r.listRecord g) := by
  unfold Whole SpurRec.listRecord
  simp only [List.length_append, length_groupBytes]
  rfl

theorem whole_landing (r : LandingRec) : Whole r.listRecord := by
  unfold Whole LandingRec.listRecord
  simp only [List.length_append, length_groupBytes]
  rfl

theorem whole_spurList (x : Spur) : ∀ r ∈ x.listRecords, Whole r := by
  unfold Spur.listRecords
  split
  · exact List.forall_mem_nil _
  · exact List.forall_mem_cons.mpr ⟨whole_spur .., List.forall_mem_map.mpr fun r _ => whole_spur r none⟩

theorem whole_of_listNamed {s : State} {id : Nat} {l : List ListRecord} (h : s.listNamed id = some l) : ∀ r ∈ l, Whole r := by
  unfold State.listNamed at h
  split at h
  all_goals cases h
  · exact List.forall_mem_map.mpr fun n _ => whole_notice n
  · exact List.forall_mem_map.mpr fun t _ => whole_zone t
  · exact whole_spurList _
  · exact whole_spurList _
  · exact whole_spurList _
  · exact List.forall_mem_map.mpr fun r _ => whole_landing r
  · exact List.forall_mem_map.mpr fun r _ => whole_landing r
  · exact List.forall_mem_map.mpr fun r _ => whole_landing r

theorem length_records {l : List ListRecord} (h : ∀ r ∈ l, Whole r) : (l.flatMap ListRecord.bytes).length = 18 * l.length := by
  induction l with
  | nil => rfl
  | cons r l ih =>
    obtain ⟨hr, hl⟩ := List.forall_mem_cons.mp h
    rw [List.flatMap_cons, List.length_append, List.length_cons, ih hl, hr]
    omega

theorem length_pairRefusal {s : State} {x : Byte × Nat} {r : List Byte} (h : s.pairRefusal x = some r) : r.length = 3 := by
  unfold State.pairRefusal at h
  repeat' split at h
  all_goals cases h
  all_goals rfl

theorem length_spurRefusal {s : State} {i : Ix} {d : Ident} {r : List Byte} (h : s.spurRefusal i d = some r) :
    r.length = 3 := by
  unfold State.spurRefusal at h
  repeat' split at h
  all_goals cases h
  all_goals rfl

/-! ### What the requests leave alone -/

theorem lines_reTest (s : State) : s.reTest.lines = s.lines := by rw [State.reTest_frame]

theorem lines_loseFront (i : Ix) (d : Nat) (s : State) : (s.loseFront i d).lines = s.lines := by
  unfold State.loseFront
  simp only []
  split
  · exact State.report_lines ..
  · rfl

theorem lines_restoreSpur (i : Ix) (s : State) : (s.restoreSpur i).lines = s.lines := by
  unfold State.restoreSpur
  split
  · exact lines_reTest _
  · exact lines_loseFront ..

theorem lines_takeMany (k : Ix) (d n : Nat) (s : State) : (State.takeMany k d n s).lines = s.lines := by
  rw [State.takeMany_frame]

theorem Fits.restoreSpur {s : State} (i : Ix) (hs : Fits s) : Fits (s.restoreSpur i) := by
  unfold State.restoreSpur
  split
  · exact reTest (hs.of_same rfl)
  · exact hs.loseFront ..

theorem Fits.writePairs {s : State} (l : List (Byte × Nat)) (hs : Fits s) : Fits (l.foldl State.writePair s) := by
  have hwrite : ∀ {u : State} (x : Byte × Nat), Fits u → Fits (u.writePair x) := fun {u} x hu => by
    unfold State.writePair
    split
    · unfold State.writeParam
      simp only []
      split
      · exact hu.of_same rfl
      · split <;> exact hu.of_same rfl
      · exact expireTag (hu.of_same rfl)
      · exact hu.of_same rfl
    · exact hu
  induction l generalizing s with
  | nil => exact hs
  | cons x l ih => exact ih (hwrite x hs)

/-! ### The handlers -/

/-- A request of state s carried out to the state and response x. -/
structure Answered (s : State) (x : State × List Byte) : Prop where
  fits : Fits x.1
  lines : x.1.lines = s.lines
  short : x.2.length ≤ 60

/-- A request that only answers. -/
theorem Answered.unchanged {s : State} {r : List Byte} (hr : r.length ≤ 60) (hs : Fits s) : Answered s (s, r) :=
  ⟨hs, rfl, hr⟩

theorem Answered.refused {s : State} {code : Nat} {d1 d2 : Byte} (hs : Fits s) : Answered s (s, refusal code d1 d2) :=
  .unchanged (show 3 ≤ 60 by decide) hs

/-- A request that keeps the law, leaves the lines alone and answers with what a frame can carry, whatever its payload. -/
def Orderly (op : Handler) : Prop := ∀ p s, Fits s → Answered s (op p s)

theorem orderly_inquire : Orderly reqInquire := fun p s hs => by
  unfold reqInquire
  split
  · exact .unchanged (show 19 ≤ 60 by decide) hs
  · exact .refused hs

theorem orderly_setParameters : Orderly reqSetParameters := fun p s hs => by
  unfold reqSetParameters
  split
  · split
    · next h =>
      obtain ⟨x, -, hx⟩ := List.exists_of_findSome?_eq_some h
      exact .unchanged ((length_pairRefusal hx).trans_le (by decide)) hs
    · exact ⟨hs.writePairs _, by rw [writePairs_frame], show 1 ≤ 60 by decide⟩
  · exact .refused hs

theorem orderly_readParameters : Orderly reqReadParameters := fun p s hs => by
  unfold reqReadParameters
  split
  · next hlen =>
    split
    · exact .refused hs
    · have hpairs := length_flatMap_le (length_readPair_le s) p
      refine .unchanged ?_ hs
      rw [doneWith, List.length_cons]
      omega
  · exact .refused hs

theorem orderly_routeWrite : Orderly reqRouteWrite := fun p s hs => by
  unfold reqRouteWrite
  split
  · split
    · exact .refused hs
    split
    · exact .refused hs
    split
    · exact .refused hs
    · exact ⟨hs.of_same rfl, rfl, show 2 ≤ 60 by decide⟩
  · exact .refused hs

theorem orderly_routeCommit : Orderly reqRouteCommit := fun p s hs => by
  unfold reqRouteCommit
  split
  · exact ⟨hs.of_same rfl, rfl, show 2 ≤ 60 by decide⟩
  · exact .refused hs

/-- At most 28 entries of two bytes each (R65). -/
theorem orderly_routeRead : Orderly reqRouteRead := fun p s hs => by
  unfold reqRouteRead
  split
  · next bank first count =>
    split
    · exact .refused hs
    split
    · exact .refused hs
    split
    · exact .refused hs
    · next hcount =>
      refine .unchanged ?_ hs
      generalize (((if bank = 0 then s.routes.active else s.routes.standby).take Config.routeEntries).drop first.toNat) = l
      have hentries := length_flatMap_le (fun e => (length_encodeRoute e).le) (l.take count.toNat)
      have htaken := List.length_take_le count.toNat l
      obtain ⟨-, hrun⟩ := not_or.mp hcount
      have hrun : count.toNat ≤ 28 := Nat.le_of_not_lt hrun
      simp only [doneWith, List.length_cons, List.length_append, List.length_nil]
      omega
  · exact .refused hs

theorem orderly_spurNotice : Orderly reqSpurNotice := fun p s hs => by
  unfold reqSpurNotice
  split
  · exact .refused hs
  split
  · exact .refused hs
  split
  · next h => exact .unchanged ((length_spurRefusal h).trans_le (by decide)) hs
  · exact ⟨hs.of_same rfl, rfl, show 2 ≤ 60 by decide⟩

theorem orderly_spurRestore : Orderly reqSpurRestore := fun p s hs => by
  unfold reqSpurRestore
  split
  · split
    · exact .refused hs
    split
    · exact ⟨hs.restoreSpur _, lines_restoreSpur .., show 2 ≤ 60 by decide⟩
    · exact .refused hs
  · exact .refused hs

theorem orderly_bayClear : Orderly reqBayClear := fun p s hs => by
  unfold reqBayClear
  split
  · split
    · exact .refused hs
    split
    · exact .refused hs
    · exact ⟨hs.takeMany .., lines_takeMany .., show 2 ≤ 60 by decide⟩
  · exact .refused hs

/-- At most three records of 18 bytes and their claim bytes (R36). -/
theorem orderly_listRead : Orderly reqListRead := fun p s hs => by
  unfold reqListRead
  split
  · next id start =>
    split
    · exact .refused hs
    · next l hl =>
      split
      · exact .unchanged (show 3 ≤ 60 by decide) hs
      · refine .unchanged ?_ hs
        have hwhole : ∀ r ∈ (l.drop start.toNat).take Config.listReadMax, Whole r := fun r hr =>
          whole_of_listNamed hl r (List.mem_of_mem_drop (List.mem_of_mem_take hr))
        have hbytes := length_records hwhole
        have hthree : ((l.drop start.toNat).take Config.listReadMax).length ≤ 3 := List.length_take_le ..
        simp only [doneWith, List.length_cons, List.length_append, List.length_nil, List.length_map, hbytes]
        omega
  · exact .refused hs

theorem orderly_counterSetup : Orderly reqCounterSetup := fun p s hs => by
  unfold reqCounterSetup
  split
  · split
    · exact .refused hs
    split
    · exact .refused hs
    split
    · exact .refused hs
    split
    · exact .refused hs
    · refine ⟨{ hs with four := ?_, values := fun c hc => ?_ }, rfl, show 1 ≤ 60 by decide⟩
      · exact List.length_set.trans hs.four
      · rcases List.mem_or_eq_of_mem_set hc with hold | rfl
        · exact hs.values c hold
        · exact Nat.zero_le _
  · exact .refused hs

/-- Four counters of seven bytes each (R174). -/
theorem orderly_counterRead : Orderly reqCounterRead := fun p s hs => by
  unfold reqCounterRead
  split
  · refine .unchanged ?_ hs
    have hbytes := length_flatMap_le (fun c : Counter => (show c.bytes.length ≤ 7 from le_rfl)) s.counters
    have hfour : s.counters.length = 4 := hs.four
    rw [doneWith, List.length_cons]
    omega
  · exact .refused hs

theorem clearCounters_keeps (mask : Byte) (n : Nat) (l : List Counter) : (clearCounters mask n l).length = l.length ∧
    ((∀ c ∈ l, c.value ≤ 4294967295) → ∀ c ∈ clearCounters mask n l, c.value ≤ 4294967295) := by
  induction l generalizing n with
  | nil => exact ⟨rfl, id⟩
  | cons c l ih =>
    obtain ⟨hlength, hvalues⟩ := ih (n + 1)
    refine ⟨congrArg (· + 1) hlength, fun h => ?_⟩
    obtain ⟨hc, hl⟩ := List.forall_mem_cons.mp h
    refine List.forall_mem_cons.mpr ⟨?_, hvalues hl⟩
    split
    · exact Nat.zero_le _
    · exact hc

theorem orderly_counterClear : Orderly reqCounterClear := fun p s hs => by
  unfold reqCounterClear
  split
  · next mask =>
    split
    · exact .refused hs
    · obtain ⟨hlength, hvalues⟩ := clearCounters_keeps mask 0 s.counters
      exact ⟨{ hs with four := hlength.trans hs.four, values := hvalues hs.values }, rfl, show 1 ≤ 60 by decide⟩
  · exact .refused hs

theorem orderly_start : Orderly reqStart := fun p s hs => by
  unfold reqStart
  split
  · exact .refused hs
  split
  · exact .refused hs
  split
  · exact .refused hs
  split
  · exact .refused hs
  · exact ⟨hs.startNode, lines_reTest _, show 2 ≤ 60 by decide⟩

theorem orderly_halt : Orderly reqHalt := fun p s hs => by
  unfold reqHalt
  split
  · exact .refused hs
  · split
    · exact .refused hs
    · exact .unchanged (show 2 ≤ 60 by decide) hs
    · exact ⟨(hs.enterHalt _).reTest, by rw [lines_reTest, State.enterHalt_frame], show 2 ≤ 60 by decide⟩

theorem orderly_resume : Orderly reqResume := fun p s hs => by
  unfold reqResume
  split
  · exact .refused hs
  split
  · exact .refused hs
  split
  · exact .refused hs
  · exact ⟨hs.resumeNode, (lines_reTest _).trans (State.report_lines ..), show 2 ≤ 60 by decide⟩

theorem orderly_config : Orderly reqConfig := fun p s hs => by
  unfold reqConfig
  split
  · exact .refused hs
  split
  · exact .unchanged (show 2 ≤ 60 by decide) hs
  · exact ⟨hs.enterConfig, State.report_lines .., show 2 ≤ 60 by decide⟩

theorem orderly_nodeReset : Orderly reqNodeReset := fun p s hs => by
  unfold reqNodeReset
  split
  · exact .refused hs
  · exact .unchanged (show 2 ≤ 60 by decide) hs

theorem orderly_handlerOf (kind : Byte) : Orderly (handlerOf kind) := by
  unfold handlerOf
  split
  · exact orderly_inquire
  · exact orderly_setParameters
  · exact orderly_readParameters
  · exact orderly_routeWrite
  · exact orderly_routeCommit
  · exact orderly_routeRead
  · exact orderly_spurNotice
  · exact orderly_spurRestore
  · exact orderly_bayClear
  · exact orderly_listRead
  · exact orderly_counterSetup
  · exact orderly_counterRead
  · exact orderly_counterClear
  · exact orderly_start
  · exact orderly_halt
  · exact orderly_resume
  · exact orderly_config
  · exact orderly_nodeReset
  · exact fun _ _ hs => .refused hs

end Sys2Proof.Queues
end

section
/-! The line ports keep the law of queues and frames: the transmit arbiters, what is delivered, and the characters at a receiver
(R162 to R169, R180). -/

namespace Sys2Proof.Queues

open Sys2Proof.Machine Sys2Proof.Safety Sys2Proof.Claims Sys2Proof.Belt

/-! ### The transmit arbiters (R168, R169) -/

theorem frameFits_creditFrame (s : State) : frameFits s.creditFrame := by
  unfold State.creditFrame
  split <;> exact show 3 ≤ 60 by decide

/-- Up to four entries of nine bytes each (R180). -/
theorem frameFits_reportFrame (s : State) : frameFits s.reportFrame := by
  change ([byte s.dropped, byte (s.reports.take 4).length] ++ (s.reports.take 4).flatMap Report.bytes).length ≤ 60
  have hentries := length_flatMap_le (fun r : Report => (show r.bytes.length ≤ 9 from le_rfl)) (s.reports.take 4)
  have hfour : (s.reports.take 4).length ≤ 4 := List.length_take_le ..
  simp only [List.length_append, List.length_cons, List.length_nil]
  omega

/-- A local frame passes the forward queue at most four times (R169). -/
theorem PortFits.startLocal {x : LinePort} {f : OutFrame} (hx : PortFits x) (hf : frameFits f.frame)
    (hurgent : ¬ (4 ≤ x.passed ∧ x.fwd ≠ [])) : PortFits (x.startLocal f) where
  __ := hx
  passed := by
    rw [Transmit.startLocal_eq]
    by_cases hempty : x.fwd = []
    · simpa only [hempty, if_true] using hx.passed
    · have hfew : x.passed < 4 := Nat.not_le.mp fun h => hurgent ⟨h, hempty⟩
      simpa only [hempty, if_false] using Nat.succ_le_of_lt hfew
  sending := by
    rintro g ⟨⟩
    exact hf

namespace Fits

variable {s : State}

theorem startForward {p : Port} (hs : Fits s) : Fits (s.startFrame p .forward) := by
  unfold State.startFrame
  simp only []
  split
  · exact hs
  · next f rest hfwd =>
    have hport := hs.port p
    have hlength : (f :: rest).length ≤ 8 := hfwd ▸ hport.fwd
    obtain ⟨hf, hrest⟩ := List.forall_mem_cons.mp (hfwd ▸ hport.fwdFrames)
    refine hs.modPort { hport with fwd := Nat.le_of_succ_le hlength, passed := Nat.zero_le 4, fwdFrames := hrest, sending := ?_ }
    rintro g ⟨⟩
    exact hf

theorem startNotice {p : Port} (hs : Fits s) (hurgent : ¬ Transmit.Urgent s p) : Fits (s.startFrame p .notice) := by
  unfold State.startFrame
  simp only []
  split
  · exact hs
  · next f rest hnotices =>
    have hlength : (f :: rest).length ≤ 8 := hnotices ▸ hs.notices
    obtain ⟨hf, hrest⟩ := List.forall_mem_cons.mp (hnotices ▸ hs.noticeFrames)
    have htaken : Fits { s with lines := { s.lines with notices := rest } } :=
      { hs with port := fun q => by cases q; exacts [hs.port .U, hs.port .D]
                notices := Nat.le_of_succ_le hlength
                noticeFrames := hrest }
    refine htaken.modPort ?_
    cases p
    · exact (hs.port .U).startLocal hf hurgent
    · exact (hs.port .D).startLocal hf hurgent

theorem startResponse {p : Port} (hs : Fits s) (hurgent : ¬ Transmit.Urgent s p) : Fits (s.startFrame p .response) := by
  unfold State.startFrame
  simp only []
  split
  · exact hs
  · next f rest hresponses =>
    have hlength : (f :: rest).length ≤ 4 := hresponses ▸ (hs.port p).responses
    obtain ⟨hf, hrest⟩ := List.forall_mem_cons.mp (hresponses ▸ (hs.port p).responseFrames)
    exact hs.modPort { (hs.port p).startLocal hf hurgent with
      responses := Nat.le_of_succ_le hlength, responseFrames := hrest }

theorem startCredit {p : Port} (hs : Fits s) (hurgent : ¬ Transmit.Urgent s p) : Fits (s.startFrame p .credit) :=
  withCredit (Nat.sub_le_of_le_add (Nat.le_succ_of_le hs.waiting))
    (hs.modPort ((hs.port p).startLocal (f := ⟨s.creditFrame, false⟩) (frameFits_creditFrame s) hurgent))

theorem startReport {p : Port} (hs : Fits s) (hurgent : ¬ Transmit.Urgent s p) : Fits (s.startFrame p .report) := by
  have hstarted : Fits (s.modPort p (LinePort.startLocal ⟨s.reportFrame, false⟩)) :=
    hs.modPort ((hs.port p).startLocal (frameFits_reportFrame s) hurgent)
  exact { hstarted with
    port := fun q => by cases q; exacts [hstarted.port .U, hstarted.port .D]
    reports := (List.length_drop ..).trans_le ((Nat.sub_le ..).trans hs.reports)
    dropped := Nat.zero_le 255 }

/-- A free transmitter takes another frame than the forward queue's head only where that has not waited four times (R169). -/
theorem pump (p : Port) (hs : Fits s) : Fits (s.pump p) := by
  unfold State.pump
  split
  · exact hs
  split
  · next c hc =>
    by_cases hurgent : Transmit.Urgent s p
    · obtain rfl := Option.some.inj (hc.symm.trans (Transmit.choose_of_urgent hurgent))
      exact hs.startForward
    · cases c with
      | credit => exact hs.startCredit hurgent
      | notice => exact hs.startNotice hurgent
      | response => exact hs.startResponse hurgent
      | forward => exact hs.startForward
      | report => exact hs.startReport hurgent
  · exact hs

theorem finish (hs : Fits s) : Fits s.finish := pump .D (pump .U (hs.of_same rfl))

/-- The end of a transmission (R169). -/
theorem withFreeTx (p : Port) (hs : Fits s) : Fits (s.modPort p fun x => { x with tx := none }) :=
  hs.modPort { hs.port p with sending := nofun }

/-! ### The delivery of frames (R163, R166 to R168) -/

theorem respond {q : Request} {payload : List Byte} (kind : Byte) (hroom : (s.lines.get q.port).responses.length < 4)
    (hpayload : payload.length ≤ 60) (hs : Fits s) : Fits (s.respond kind q payload) := by
  refine hs.modPort { hs.port q.port with responses := ?_, responseFrames := ?_ }
  · rw [List.length_append]; exact hroom
  · exact List.forall_mem_append.mpr ⟨(hs.port q.port).responseFrames, List.forall_mem_singleton.mpr hpayload⟩

/-- A request is carried out only where its response has a place (R168). -/
theorem serve {op : Handler} (hop : Orderly op) (kind : Byte) (q : Request) (hs : Fits s) : Fits (s.serve op kind q) := by
  unfold State.serve
  split
  · exact hs.offer
  · next hroom =>
    obtain ⟨hfits, hlines, hshort⟩ := hop q.payload s hs
    exact hfits.respond kind (by rw [hlines]; exact Nat.not_le.mp hroom) hshort

theorem broadcastRequest {op : Handler} (hop : Orderly op) (kind : Byte) {q : Request} (hq : q.payload.length ≤ 60)
    (hs : Fits s) : Fits (s.broadcastRequest op kind q) := by
  unfold State.broadcastRequest
  split
  · exact hs.offer
  · refine forward .D hq ?_
    split
    · exact (hop q.payload s hs).fits
    · exact hs

theorem requestArrives {op : Handler} (hop : Orderly op) (kind : Byte) (q : Request) (hs : Fits s) :
    Fits (s.requestArrives op kind q) := by
  have ha := hs.frameArrives q.port
  unfold State.requestArrives
  simp only []
  split
  · exact ha.offer
  · next hlen =>
    split
    · exact ha.broadcastRequest hop kind (Nat.le_of_not_lt hlen)
    · exact ha.serve hop kind q

theorem noticeFrameIn (payload : List Byte) (hs : Fits s) : Fits (s.noticeFrameIn payload) := by
  unfold State.noticeFrameIn
  split
  · exact hs.takeNotice ..
  · exact hs.offer

theorem noticeArrives (payload : List Byte) (hs : Fits s) : Fits (s.noticeArrives payload) := by
  unfold State.noticeArrives
  split
  · exact hs.offer
  · exact hs.noticeFrameIn payload

theorem creditFrameIn (payload : List Byte) (hs : Fits s) : Fits (s.creditFrameIn payload) := by
  unfold State.creditFrameIn
  split
  · split
    · exact hs.takeSync _
    · exact hs.takeLocked ..
    · exact hs.offer
  · exact hs.offer

/-- A frame whose check holds, by its address, port and kind: the table of R166. -/
theorem deliver (p : Port) {f : Frame} (hf : frameFits f) (hs : Fits s) : Fits (s.deliver p f) := by
  unfold State.deliver
  simp only []
  split
  · split
    · exact hs.serve (orderly_handlerOf f.kind) ..
    · exact hs.offer
  split
  · cases p with
    | U => exact hs.offer
    | D => exact hs.forward .U hf
  split
  · cases p with
    | U =>
      simp only []
      split
      · exact hs.noticeFrameIn f.payload
      · exact hs.offer
    | D =>
      simp only []
      split
      · exact hs.creditFrameIn f.payload
      · exact hs.offer
  split
  · exact hs.broadcastRequest (orderly_handlerOf f.kind) f.kind (q := requestOf f p true) hf
  · exact hs.forward p.other hf

theorem wholeFrame (p : Port) (f : Frame) (hs : Fits s) : Fits (s.wholeFrame p f) := by
  unfold State.wholeFrame
  simp only []
  split
  · exact (hs.frameArrives p).offer
  · next hlen => exact (hs.frameArrives p).deliver p (Nat.le_of_not_lt hlen)

end Fits

/-! ### Characters (R14, R163) -/

theorem checkedFrame_cons (dest src kind tag len : Byte) (rest : List Byte) :
    checkedFrame (dest :: src :: kind :: tag :: len :: rest) =
      if rest.drop len.toNat = be16 (crc (dest :: src :: kind :: tag :: len :: rest.take len.toNat)).toNat then
        some ⟨dest, src, kind, tag, rest.take len.toNat⟩
      else none := rfl

theorem length_of_checkedFrame {dest src kind tag len : Byte} {rest : List Byte} {f : Frame}
    (h : checkedFrame (dest :: src :: kind :: tag :: len :: rest) = some f) : f.payload.length ≤ len.toNat := by
  rw [checkedFrame_cons] at h
  split at h
  · cases h
    exact List.length_take_le ..
  · cases h

/-- A receiver completes no frame with LEN above 60 (R163). -/
theorem frameFits_of_added {got : List Byte} {f : Frame} (h : (rxAdded got).2 = .complete f) : frameFits f := by
  unfold rxAdded at h
  split at h
  · split at h
    · cases h
    next hlen =>
    split at h
    · cases h
    split at h
    · next g hg =>
      cases h
      exact (length_of_checkedFrame hg).trans (Nat.le_of_not_lt hlen)
    · cases h
  · cases h

theorem frameFits_of_complete {rx : RxState} {c : LineChar} {f : Frame} (h : (rxChar rx c).2 = .complete f) : frameFits f := by
  unfold rxChar at h
  split at h
  · split at h <;> cases h
  · split at h
    · cases h
    split at h
    · cases h
    split at h
    · cases h
    · exact frameFits_of_added h

namespace Fits

variable {s : State}

theorem lineChar (p : Port) (c : LineChar) (hs : Fits s) : Fits (s.lineChar p c) := by
  unfold State.lineChar
  simp only []
  split
  · exact hs.withRx
  · exact hs.withRx.offer
  · next f hf => exact (hs.withRx.deliver p (frameFits_of_complete hf)).finish

theorem lineChars (p : Port) (cs : List LineChar) (hs : Fits s) : Fits (cs.foldl (State.lineChar p) s) := by
  induction cs generalizing s with
  | nil => exact hs
  | cons c cs ih => exact ih (hs.lineChar p c)

theorem tagCharAwait (c : TagChar) (hs : Fits s) : Fits (s.tagCharAwait c) :=
  hs.of_same (by rw [Steps.tagCharAwait_frame]; rfl)

theorem judgeRead (got : List Byte) (hs : Fits s) : Fits (s.judgeRead got) := by
  have hvalid : ∀ tag, Fits (s.validRead tag) := fun tag => by
    unfold State.validRead
    simp only []
    split
    · split
      · exact offer (hs.of_same rfl)
      · exact hs.of_same rfl
    · exact hs
  unfold State.judgeRead
  split
  · split
    · exact hvalid _
    · exact hs.offer
  · exact hs.offer

theorem tagChar (c : TagChar) (hs : Fits s) : Fits (s.tagChar c) := by
  have hrx : ∀ rx, Fits (s.putTagRx rx) := fun rx => hs.of_same rfl
  unfold State.tagChar
  split
  · exact hs.tagCharAwait c
  split
  · exact tagCharAwait c (hrx _).offer
  split
  · exact (hrx _).offer
  split
  · exact hrx _
  · exact (hrx _).judgeRead _

theorem tagChars (cs : List TagChar) (hs : Fits s) : Fits (cs.foldl State.tagChar s) := by
  induction cs generalizing s with
  | nil => exact hs
  | cons c cs ih => exact ih (hs.tagChar c)

end Fits

end Sys2Proof.Queues
end

section
/-! Every step keeps the queues of frames and reports within their capacities, and each frame within what the bus carries (R163,
R167, R168, R179). -/

namespace Sys2Proof.Queues

open Sys2Proof.Machine Sys2Proof.Safety Sys2Proof.Claims Sys2Proof.Belt Sys2Proof.Steps

namespace Fits

variable {s : State}

/-! ### Encoder samples, the emergency stop, edges and resets -/

theorem encoderSample (now : Bool × Bool) (hs : Fits s) : Fits (s.encoderSample now) := by
  have hplaced : ∀ q : PositionUnit, Fits { s with pos := q } := fun q => hs.of_same rfl
  unfold State.encoderSample
  simp only []
  split
  · exact hplaced _
  split
  · unfold State.forwardTransition
    split
    · exact positionChange (hplaced _)
    · exact hplaced _
  · unfold State.reverseTransition
    split
    · exact positionChange (hplaced _)
    · exact hplaced _
  · have hcounted : ∀ q : PositionUnit, Fits (({ s with pos := q } : State).offer .encoderError none none) :=
      fun q => (hplaced q).offer
    unfold State.invalidTransition
    simp only []
    split
    · exact ((hcounted _).enterHalt .encoder).reTest
    · exact hcounted _
  · exact hplaced _

theorem finished (hs : Fits s) : GoesOn Fits (.next s.finish) := ⟨_, rfl, hs.finish⟩

/-- A reset where it follows, and nothing where it does not. -/
theorem resetIf (c : Bool) (hs : Fits s) : GoesOn Fits (.next (if c then s.resetPart else s)) := by
  refine ⟨_, rfl, ?_⟩
  split
  · exact resetPart
  · exact hs

theorem eStopAssertion (hs : Fits s) : GoesOn Fits (execEStopAssertion s) := by
  have hset : Fits { s with node := { s.node with estopActive := true, estopCount := 0 } } := hs.of_same rfl
  refine ⟨_, rfl, ?_⟩
  split
  · exact hs
  split
  · exact (hset.enterHalt .eStop).reTest.finish
  · exact hset.finish

theorem eStopRelease (hs : Fits s) : GoesOn Fits (execEStopRelease s) := by
  refine ⟨_, rfl, ?_⟩
  split
  · exact finish (hs.of_same rfl)
  · exact hs

theorem edge (i : EyeId) (b : Bool) (hs : Fits s) : GoesOn Fits (exec (edgeOf i b) s) := by
  by_cases hno : noEdge i b s
  · exact ⟨s, by rw [exec_edgeOf, edge_of_noEdge hno], hs⟩
  · obtain ⟨e, u, hu⟩ := exists_edgeTaken hno
    have htaken : Fits u := hs.of_same (by rw [edgeTaken_frame hu]; rfl)
    rw [exec_of_edgeTaken hu]
    exact (htaken.ownerOf i b e).finished

theorem frameSent (p : Port) (hs : Fits s) : GoesOn Fits (execFrameSent p s) := by
  refine ⟨_, rfl, ?_⟩
  split
  · exact hs
  split
  · exact resetPart
  · exact (hs.withFreeTx p).finish

theorem onExpiry {timer : Timer} {act : State → State} (hact : Fits (act s)) (hs : Fits s) :
    GoesOn Fits (s.onExpiry timer act) := by
  refine ⟨_, rfl, ?_⟩
  split
  · exact hact.finish
  · exact hs

theorem releaseExpiry (i : Ix) (hs : Fits s) : GoesOn Fits (execReleaseTimerExpiry i s) := by
  have hended : Fits ((s.stickSpur i i.toNat).modSpur i fun y => { y with releaseTimer := none }) :=
    (hs.stickSpur ..).of_same rfl
  refine ⟨_, rfl, ?_⟩
  split
  · exact hended.reTest.finish
  · exact hs

/-! ### The commands -/

theorem requested (kind : Byte) (q : Request) (hs : Fits s) :
    GoesOn Fits (.next (s.requestArrives (handlerOf kind) kind q).finish) :=
  (hs.requestArrives (orderly_handlerOf kind) kind q).finished

theorem unknownKindRequest (kind : Byte) (q : Request) (hs : Fits s) : GoesOn Fits (execUnknownKindRequest kind q s) := by
  refine ⟨_, rfl, ?_⟩
  split
  · exact (hs.requestArrives (orderly_handlerOf kind) kind q).finish
  · exact (hs.frameArrives q.port).offer.finish

theorem exec (c : Instr) (hs : Fits s) : GoesOn Fits (exec c s) := by
  cases c with
  | powerOn | resetPin => exact ⟨_, rfl, resetPart⟩
  | inquire q => exact hs.requested 0x10 q
  | setParameters q => exact hs.requested 0x11 q
  | readParameters q => exact hs.requested 0x12 q
  | routeWrite q => exact hs.requested 0x13 q
  | routeCommit q => exact hs.requested 0x14 q
  | routeRead q => exact hs.requested 0x15 q
  | spurNotice q => exact hs.requested 0x16 q
  | spurRestore q => exact hs.requested 0x17 q
  | bayClear q => exact hs.requested 0x18 q
  | listRead q => exact hs.requested 0x19 q
  | counterSetup q => exact hs.requested 0x1A q
  | counterRead q => exact hs.requested 0x1B q
  | counterClear q => exact hs.requested 0x1C q
  | start q => exact hs.requested 0x1D q
  | halt q => exact hs.requested 0x1E q
  | resume q => exact hs.requested 0x1F q
  | config q => exact hs.requested 0x20 q
  | nodeReset q => exact hs.requested 0x21 q
  | nodeResetTakesEffect p => exact hs.resetIf (s.resetOutstanding p)
  | unknownKindRequest kind q => exact hs.unknownKindRequest kind q
  | notice payload => exact ((hs.frameArrives .U).noticeArrives payload).finished
  | creditSync value => exact ((hs.frameArrives .D).takeSync value).finished
  | creditLocked g r => exact ((hs.frameArrives .D).takeLocked g r).finished
  | frameForward p f | frameDrop p f => exact (hs.wholeFrame p f).finished
  | frameAbandon p cs => exact (hs.lineChars p cs).finished
  | tagRead cs | badTagRead cs => exact (hs.tagChars cs).finished
  | encoderTransition a b => exact (hs.encoderSample (a, b)).finished
  | entryEyeBlocked => exact hs.edge .entry true
  | entryEyeClear => exact hs.edge .entry false
  | gateEyeBlocked i => exact hs.edge (.gate i) true
  | gateEyeClear i => exact hs.edge (.gate i) false
  | confirmEyeBlocked k => exact hs.edge (.confirm k) true
  | confirmEyeClear k => exact hs.edge (.confirm k) false
  | frontEyeBlocked k => exact hs.edge (.front k) true
  | frontEyeClear k => exact hs.edge (.front k) false
  | eStopAssertion => exact hs.eStopAssertion
  | eStopRelease => exact hs.eStopRelease
  | speedSample => exact hs.takeSample.finished
  | paddlePulseExpiry k | chimeExpiry k | lampStepExpiry k => exact onExpiry (hs.of_same rfl) hs
  | gatePulseExpiry i => exact onExpiry (hs.of_same rfl) hs
  | releaseTimerExpiry i => exact hs.releaseExpiry i
  | chuteJamExpiry k => exact onExpiry (hs.chuteJammed k) hs
  | creditRefresh => exact finished (hs.withCredit (min_le_left ..))
  | millisecondTick => exact hs.tick.finished
  | frameSent p => exact hs.frameSent p

theorem step {t : State} (hstep : step s = .next t) (hs : Fits s) : Fits t := by
  cases hp : s.pending with
  | nil =>
    obtain rfl := Host.Outcome.next.inj ((step_of_idle hp).symm.trans hstep)
    exact hs.samplePeriod
  | cons c rest =>
    have hpopped : Fits { s with pending := rest } := hs.of_same rfl
    obtain ⟨u, hu, hfits⟩ := hpopped.exec c
    have hexec : Machine.step s = Machine.exec c { s with pending := rest } := by rw [Machine.step, hp]
    obtain rfl := Host.Outcome.next.inj ((hu.symm.trans hexec.symm).trans hstep)
    exact hfits

end Fits

/-- Settles O50: each queue is entered only where it has a place, and what enters it is no longer than a frame may be; so every
command keeps the law, and the sample period touches none of it. -/
theorem stepsKeepQueuesWithinCapacity : Obligations.StepsKeepQueuesWithinCapacity := by
  unfold Obligations.StepsKeepQueuesWithinCapacity
  intro s t hqueues hframes hstep
  exact (fits_iff t).mpr (((fits_iff s).mp ⟨hqueues, hframes⟩).step hstep)

end Sys2Proof.Queues
end

section
/-! CHECK: the remainder of R164 bit by bit, and what it sees of a change (R164). -/

namespace Sys2Proof.Check

open Sys2Proof.Machine Sys2Proof.Claims

/-! ### One bit -/

theorem crcBit_eq (r : BitVec 16) (b : Bool) : crcBit r b = (r <<< 1) ^^^ (if r.msb != b then 0x1021 else 0) := by
  unfold crcBit
  split
  · rfl
  · exact (BitVec.xor_zero ..).symm

/-- The lowest bit of the new remainder says whether the divisor was taken off. -/
theorem getLsbD_zero_crcBit (r : BitVec 16) (b : Bool) : (crcBit r b).getLsbD 0 = (r.msb != b) := by
  rw [crcBit_eq, BitVec.getLsbD_xor, BitVec.getLsbD_shiftLeft]
  cases r.msb != b <;> rfl

theorem getLsbD_shiftLeft_add (x : BitVec 16) {n m : Nat} (h : m + n < 16) : (x <<< n).getLsbD (m + n) = x.getLsbD m := by
  rw [BitVec.getLsbD_shiftLeft, decide_eq_true h, decide_eq_false (by omega : ¬ m + n < n), Nat.add_sub_cancel]
  rfl

/-- What a remainder's next bit was is seen as long as the run has not pushed it out. -/
theorem feedback_eq {r q : BitVec 16} {b c : Bool} {n : Nat} (hn : n < 16) (h : crcBit r b <<< n = crcBit q c <<< n) :
    (r.msb != b) = (q.msb != c) := by
  have hbit := congrArg (BitVec.getLsbD · (0 + n)) h
  simp only [getLsbD_shiftLeft_add _ (show 0 + n < 16 by omega), getLsbD_zero_crcBit] at hbit
  exact hbit

/-! ### A run of bits -/

/-- The remainder after a run of bits. -/
def crcBits (r : BitVec 16) (l : List Bool) : BitVec 16 := l.foldl crcBit r

/-- Remainders that agree after a run of bits agreed before it in the bits that the run has not pushed out. -/
theorem shiftLeft_eq_of_crcBits_eq {l m : List Bool} (hlength : l.length = m.length) (hshort : l.length ≤ 16)
    {r q : BitVec 16} (h : crcBits r l = crcBits q m) : r <<< l.length = q <<< l.length := by
  induction l generalizing m r q with
  | nil =>
    cases m with
    | nil => exact congrArg (fun x : BitVec 16 => x <<< 0) (show r = q from h)
    | cons => cases hlength
  | cons b l ih =>
    cases m with
    | nil => cases hlength
    | cons c m =>
      have hroom : l.length < 16 := hshort
      have hnext := ih (Nat.succ.inj hlength) hroom.le h
      have hfeedback := feedback_eq hroom hnext
      rw [crcBit_eq, crcBit_eq, hfeedback, BitVec.shiftLeft_xor_distrib, BitVec.shiftLeft_xor_distrib,
        BitVec.xor_left_inj] at hnext
      rw [List.length_cons, Nat.add_comm, BitVec.shiftLeft_add, BitVec.shiftLeft_add]
      exact hnext

/-- From one remainder, runs of at most 16 bits that leave the same remainder are the same. -/
theorem eq_of_crcBits_eq {l m : List Bool} (hlength : l.length = m.length) (hshort : l.length ≤ 16) {r : BitVec 16}
    (h : crcBits r l = crcBits r m) : l = m := by
  induction l generalizing m r with
  | nil => exact (List.eq_nil_of_length_eq_zero hlength.symm).symm
  | cons b l ih =>
    cases m with
    | nil => cases hlength
    | cons c m =>
      have hroom : l.length < 16 := hshort
      have hnext := shiftLeft_eq_of_crcBits_eq (Nat.succ.inj hlength) hroom.le h
      obtain rfl : b = c := by simpa using feedback_eq hroom hnext
      rw [ih (Nat.succ.inj hlength) hroom.le h]

/-- No two remainders become one. -/
theorem crcBit_injective (b : Bool) : Function.Injective fun r => crcBit r b := by
  intro r q h
  have hlow : r <<< 1 = q <<< 1 := shiftLeft_eq_of_crcBits_eq (l := [b]) (m := [b]) rfl (show 1 ≤ 16 by decide) h
  have hmsb : r.msb = q.msb := by
    simpa using feedback_eq (show 0 < 16 by decide) (congrArg (fun x : BitVec 16 => x <<< 0) h)
  refine BitVec.eq_of_getLsbD_eq fun i hi => ?_
  by_cases hlast : i = 15
  · subst hlast
    rw [BitVec.msb_eq_getLsbD_last, BitVec.msb_eq_getLsbD_last] at hmsb
    exact hmsb
  · have hbit := congrArg (BitVec.getLsbD · (i + 1)) hlow
    simp only [getLsbD_shiftLeft_add _ (show i + 1 < 16 by omega)] at hbit
    exact hbit

/-! ### Bytes -/

/-- The bits of a byte, most significant first. -/
def bitsOf (x : Byte) : List Bool := [7, 6, 5, 4, 3, 2, 1, 0].map x.getLsbD

theorem crcByte_eq_crcBits (r : BitVec 16) (x : Byte) : crcByte r x = crcBits r (bitsOf x) := rfl

theorem bitsOf_injective : Function.Injective bitsOf := by
  intro x y h
  refine BitVec.eq_of_getLsbD_eq fun i hi => ?_
  have hall : ∀ n ∈ [7, 6, 5, 4, 3, 2, 1, 0], x.getLsbD n = y.getLsbD n := List.map_inj_left.mp h
  exact hall i (by simp; omega)

theorem crcByte_byte_injective (r : BitVec 16) : Function.Injective (crcByte r) := fun _ _ h =>
  bitsOf_injective (eq_of_crcBits_eq rfl (show 8 ≤ 16 by decide) h)

theorem crcByte_remainder_injective (x : Byte) : Function.Injective fun r => crcByte r x := by
  have hbits : ∀ l, Function.Injective fun r => crcBits r l := fun l => by
    induction l with
    | nil => exact fun _ _ h => h
    | cons b l ih => exact fun _ _ h => crcBit_injective b (ih h)
  exact hbits (bitsOf x)

/-- The statement's step of the division is the model's. -/
theorem crcByte_eq_crcStep (r : BitVec 16) (x : Byte) : crcByte r x = crcStep r x := by
  have hbit : ∀ (q : BitVec 16) (b : Bool),
      crcBit q b = if q.getLsbD 15 = b then q <<< 1 else (q <<< 1) ^^^ 0x1021 := fun q b => by
    unfold crcBit
    rw [BitVec.msb_eq_getLsbD_last]
    cases q.getLsbD 15 <;> cases b <;> rfl
  exact congrArg (fun f => [7, 6, 5, 4, 3, 2, 1, 0].foldl f r) (funext fun q => funext fun n => hbit q (x.getLsbD n))

theorem crc_append (a b : List Byte) : crc (a ++ b) = b.foldl crcByte (crc a) := List.foldl_append

/-- Bytes that follow keep two remainders apart. -/
theorem foldl_crcByte_injective (b : List Byte) : Function.Injective fun r => b.foldl crcByte r := by
  induction b with
  | nil => exact fun _ _ h => h
  | cons x b ih => exact fun _ _ h => crcByte_remainder_injective x (ih h)

/-- Settles O46: a changed byte gives a changed remainder, and no byte after it brings the two together again. -/
theorem checkSeesAChangedByte : Obligations.CheckSeesAChangedByte := by
  unfold Obligations.CheckSeesAChangedByte
  refine ⟨⟨rfl, fun a x => ?_⟩, fun a b x y hxy h => ?_⟩
  · rw [crc_append, ← crcByte_eq_crcStep]
    rfl
  · rw [crc_append, crc_append] at h
    exact hxy (crcByte_byte_injective (crc a) (foldl_crcByte_injective b h))

end Sys2Proof.Check
end

section
/-! Requests and whole frames at the line ports: where a frame goes, and what answers it (R166 to R168, R173). -/

namespace Sys2Proof.Ports

open Sys2Proof.Machine Sys2Proof.Claims

/-! ### The two events -/

theorem offerDrop_eq_dropped (p : Port) (s : State) : s.offerDrop p = dropped p s := by cases p <;> rfl

theorem frameTooLong_eq_tooLong (p : Port) (s : State) : s.frameTooLong p = tooLong p s := by cases p <;> rfl

/-! ### Kinds -/

theorem managementKind_iff (kind : Byte) :
    managementKind kind = true ↔ ¬ (kind.toNat ∈ [1, 2, 3] ∨ 0x80 ≤ kind.toNat) := by
  unfold managementKind
  rw [Bool.and_eq_true, Bool.not_eq_true', decide_eq_true_iff, decide_eq_false_iff_not, not_or, Nat.not_le]
  exact and_comm

theorem managementKind_of_otherKind {kind : Byte} (h : otherKind kind) : managementKind kind = true :=
  (managementKind_iff kind).mpr fun hout => hout.elim h.2.1 (Nat.not_le.mpr h.1)

theorem managementKind_of_request {x : Byte × (Request → Instr)} (h : x ∈ requestCommands) : managementKind x.1 = true := by
  have hkinds : ∀ kind ∈ requestCommands.map Prod.fst, managementKind kind = true := by decide
  exact hkinds x.1 (List.mem_map_of_mem h)

theorem handlerOf_otherKind {kind : Byte} (h : otherKind kind) : handlerOf kind = reqUnknownKind kind := by
  obtain ⟨_, _, hout⟩ := h
  unfold handlerOf
  split
  case h_19 => rfl
  all_goals omega

theorem broadcastKind_iff (kind : Byte) : broadcastKind kind = true ↔ kind = 0x1E ∨ kind = 0x1F ∨ kind = 0x14 := by
  have hval : ∀ k : Byte, kind.toNat = k.toNat ↔ kind = k := fun k => BitVec.toNat_inj
  rw [← hval, ← hval, ← hval]
  simp [broadcastKind]

theorem broadcastKind_otherKind {kind : Byte} (h : otherKind kind) : broadcastKind kind = false := by
  obtain ⟨_, _, hout⟩ := h
  refine decide_eq_false fun hmem => ?_
  simp only [List.mem_cons, List.not_mem_nil, or_false] at hmem
  omega

/-! ### The request commands -/

/-- Every request command is the arrival of a frame of its kind. -/
theorem exec_request {x : Byte × (Request → Instr)} (h : x ∈ requestCommands) (q : Request) (s : State) :
    exec (x.2 q) s = .next (s.requestArrives (handlerOf x.1) x.1 q).finish := by
  simp only [requestCommands, List.mem_cons, List.not_mem_nil, or_false] at h
  rcases h with rfl | rfl | rfl | rfl | rfl | rfl | rfl | rfl | rfl | rfl | rfl | rfl | rfl | rfl | rfl | rfl | rfl | rfl
  all_goals rfl

theorem exec_unknownKindRequest {kind : Byte} {q : Request}
    (h : q.broadcast = true ∨ managementKind kind = true ∨ 60 < q.payload.length) (s : State) :
    exec (.unknownKindRequest kind q) s = .next (s.requestArrives (handlerOf kind) kind q).finish := by
  refine congrArg Host.Outcome.next (if_pos ?_)
  rw [Bool.or_eq_true, Bool.or_eq_true, decide_eq_true_iff, or_assoc]
  exact h

theorem exec_otherKind {kind : Byte} (h : otherKind kind) (q : Request) (s : State) :
    exec (.unknownKindRequest kind q) s = .next (s.requestArrives (handlerOf kind) kind q).finish :=
  exec_unknownKindRequest (.inr (.inl (managementKind_of_otherKind h))) s

/-! ### A request's arrival -/

theorem requestArrives_of_tooLong {q : Request} (h : 60 < q.payload.length) (op : Handler) (kind : Byte) (s : State) :
    s.requestArrives op kind q = tooLong q.port (s.frameArrives q.port) :=
  (if_pos h).trans (frameTooLong_eq_tooLong ..)

theorem requestArrives_of_addressed {q : Request} (hlen : q.payload.length ≤ 60) (h : q.broadcast = false) (op : Handler)
    (kind : Byte) (s : State) : s.requestArrives op kind q = (s.frameArrives q.port).serve op kind q :=
  (if_neg (Nat.not_lt.mpr hlen)).trans (if_neg (ne_true_of_eq_false h))

theorem requestArrives_of_broadcast {q : Request} (hlen : q.payload.length ≤ 60) (h : q.broadcast = true) (op : Handler)
    (kind : Byte) (s : State) : s.requestArrives op kind q = (s.frameArrives q.port).broadcastRequest op kind q :=
  (if_neg (Nat.not_lt.mpr hlen)).trans (if_pos h)

theorem serve_of_full {q : Request} {s : State} (h : 4 ≤ (s.lines.get q.port).responses.length) (op : Handler) (kind : Byte) :
    s.serve op kind q = dropped q.port s :=
  (if_pos h).trans (offerDrop_eq_dropped ..)

theorem broadcastRequest_of_port_D {q : Request} (h : q.port = .D) (op : Handler) (kind : Byte) (s : State) :
    s.broadcastRequest op kind q = dropped q.port s := by
  unfold State.broadcastRequest
  rw [h]
  exact offerDrop_eq_dropped ..

theorem broadcastRequest_of_port_U {q : Request} (h : q.port = .U) (op : Handler) (kind : Byte) (s : State) :
    s.broadcastRequest op kind q =
      (if broadcastKind kind = true then (op q.payload s).1 else s).forward .D (broadcastFrame kind q) := by
  unfold State.broadcastRequest
  rw [h]

/-- A request that cannot be answered, or a broadcast one on port D, is dropped. -/
theorem requestArrives_of_dropped {q : Request} {s : State} (hlen : q.payload.length ≤ 60)
    (h : q.broadcast = false ∧ 4 ≤ (s.lines.get q.port).responses.length ∨ q.broadcast = true ∧ q.port = .D) (op : Handler)
    (kind : Byte) : s.requestArrives op kind q = dropped q.port (s.frameArrives q.port) := by
  rcases h with ⟨hown, hfull⟩ | ⟨hall, hport⟩
  · rw [requestArrives_of_addressed hlen hown, serve_of_full]
    rwa [Belt.frameArrives_responses]
  · rw [requestArrives_of_broadcast hlen hall, broadcastRequest_of_port_D hport]

/-- A response joins the responses of its port, and nothing else changes. -/
theorem respond_eq (kind : Byte) (q : Request) (p : List Byte) (s : State) :
    s.respond kind q p = { s with lines := s.lines.put q.port { s.lines.get q.port with
      responses := (s.lines.get q.port).responses ++
        [⟨⟨byte (q.src.toNat % 64), byte s.node.address, kind + 0x80, q.tag, p⟩,
          decide (kind = 0x21) && decide (p.head? = some 0x00)⟩] } } := rfl

/-- Settles O14: each command is its kind's arrival, and an arrival with a place for the response is carried out and answered. -/
theorem requestsAreAnsweredOnTheirPort : Obligations.RequestsAreAnsweredOnTheirPort := by
  unfold Obligations.RequestsAreAnsweredOnTheirPort
  refine ⟨fun q s hq => ⟨fun x hx => ?_, fun kind hkind => ?_⟩, fun kind q p s => ?_⟩
  · rw [exec_request hx, Belt.requestArrives_of_delivered hq]
    rfl
  · rw [exec_otherKind hkind, Belt.requestArrives_of_delivered hq, handlerOf_otherKind hkind]
    rfl
  · rw [respond_eq]
    exact ⟨rfl, rfl⟩

/-- Settles O15: an arrival that is too long, without a place for its response, or broadcast, by its port. -/
theorem requestsWithoutAnAnswer : Obligations.RequestsWithoutAnAnswer := by
  unfold Obligations.RequestsWithoutAnAnswer
  intro q s
  refine ⟨fun hlong => ⟨fun x hx => ?_, fun kind => ?_⟩, fun hlen hdrop => ⟨fun x hx => ?_, fun kind hkind => ?_⟩,
    fun hlen hall hport => ⟨fun x hx => ?_, fun kind hkind => ?_⟩⟩
  · rw [exec_request hx, requestArrives_of_tooLong hlong]
  · rw [exec_unknownKindRequest (.inr (.inr hlong)), requestArrives_of_tooLong hlong]
  · rw [exec_request hx, requestArrives_of_dropped hlen hdrop]
  · rw [exec_otherKind hkind, requestArrives_of_dropped hlen hdrop]
  · rw [exec_request hx, requestArrives_of_broadcast hlen hall, broadcastRequest_of_port_U hport]
    simp only [broadcastKind_iff]
    split <;> rfl
  · rw [exec_otherKind hkind, requestArrives_of_broadcast hlen hall, broadcastRequest_of_port_U hport,
      if_neg (ne_true_of_eq_false (broadcastKind_otherKind hkind))]
    rfl

end Sys2Proof.Ports
end

section
/-! Whole frames: the table of R166, by address and port. -/

namespace Sys2Proof.Ports

open Sys2Proof.Machine Sys2Proof.Claims

/-! ### The forward queues -/

theorem forward_of_place {out : Port} {s : State} (h : (s.lines.get out).fwd.length < 8) (f : Frame) :
    s.forward out f = { s with lines := s.lines.put out { s.lines.get out with fwd := (s.lines.get out).fwd ++ [f] } } :=
  if_pos h

theorem forward_of_full {out : Port} {s : State} (h : 8 ≤ (s.lines.get out).fwd.length) (f : Frame) :
    s.forward out f = dropped out s :=
  (if_neg (Nat.not_lt.mpr h)).trans (offerDrop_eq_dropped ..)

/-! ### The table of R166, row by row -/

section
variable {p : Port} {f : Frame} {s : State}

theorem deliver_own_request (h : f.dest.toNat % 64 = s.node.address) (hkind : managementKind f.kind = true) :
    s.deliver p f = s.serve (handlerOf f.kind) f.kind (requestOf f p false) :=
  (if_pos h).trans (if_pos hkind)

theorem deliver_own_other (h : f.dest.toNat % 64 = s.node.address) (hkind : ¬ managementKind f.kind = true) :
    s.deliver p f = dropped p s :=
  (if_pos h).trans ((if_neg hkind).trans (offerDrop_eq_dropped ..))

theorem deliver_elsewhere (h : f.dest.toNat % 64 ≠ s.node.address) (hleast : 1 ≤ f.dest.toNat % 64)
    (hmost : f.dest.toNat % 64 ≤ 61) : s.deliver p f = s.forward p.other f :=
  (if_neg h).trans ((if_neg (by omega)).trans ((if_neg (by omega)).trans (if_neg (by omega))))

theorem deliver_lineHead (h : f.dest.toNat % 64 ≠ s.node.address) (hhead : f.dest.toNat % 64 = 0) :
    s.deliver p f = (match p with | .U => dropped .U s | .D => s.forward .U f) := by
  refine (if_neg h).trans ((if_pos hhead).trans ?_)
  cases p
  · exact offerDrop_eq_dropped ..
  · rfl

theorem deliver_nextHop (h : f.dest.toNat % 64 ≠ s.node.address) (hnext : f.dest.toNat % 64 = 62) :
    s.deliver p f = (match p with
      | .U => if f.kind = 0x01 then s.noticeFrameIn f.payload else dropped .U s
      | .D => if f.kind = 0x02 then s.creditFrameIn f.payload else dropped .D s) := by
  refine (if_neg h).trans ((if_neg (by omega)).trans ((if_pos hnext).trans ?_))
  cases p <;> exact congrArg (ite _ _) (offerDrop_eq_dropped ..)

theorem deliver_broadcast (h : f.dest.toNat % 64 ≠ s.node.address) (hall : f.dest.toNat % 64 = 63) :
    s.deliver p f = s.broadcastRequest (handlerOf f.kind) f.kind (requestOf f p true) :=
  (if_neg h).trans ((if_neg (by omega)).trans ((if_neg (by omega)).trans (if_pos hall)))

end

/-- A CREDIT frame with the SYNC flag. -/
theorem creditFrameIn_sync (v x : Byte) (s : State) : s.creditFrameIn [0x01, v, x] = s.takeSync v := rfl

/-- A CREDIT frame with the LOCKED flag. -/
theorem creditFrameIn_locked (g r : Byte) (s : State) : s.creditFrameIn [0x02, g, r] = s.takeLocked g r := rfl

/-- A CREDIT frame of another LEN or with other flags. -/
theorem creditFrameIn_other {payload : List Byte}
    (h : payload.length ≠ 3 ∨ payload.head? ≠ some 0x01 ∧ payload.head? ≠ some 0x02) (s : State) :
    s.creditFrameIn payload = dropped .D s := by
  unfold State.creditFrameIn
  split
  · next f a b =>
    obtain ⟨hsync, hlocked⟩ := h.resolve_left (· rfl)
    split
    · next hone => exact absurd (congrArg some (BitVec.eq_of_toNat_eq (y := 0x01) hone)) hsync
    · next htwo => exact absurd (congrArg some (BitVec.eq_of_toNat_eq (y := 0x02) htwo)) hlocked
    · exact offerDrop_eq_dropped ..
  · exact offerDrop_eq_dropped ..

/-! ### Frames to the Management Unit -/

theorem broadcastFrame_requestOf {f : Frame} (h : f.dest.toNat % 64 = 63) (p : Port) (all : Bool) :
    broadcastFrame f.kind (requestOf f p all) = f := by
  have hdest : byte (64 * (BitVec.ofNat 2 (f.dest.toNat / 64)).toNat + 63) = f.dest := by
    refine BitVec.eq_of_toNat_eq ?_
    rw [byte, BitVec.toNat_ofNat, BitVec.toNat_ofNat]
    have hbyte := f.dest.isLt
    omega
  unfold broadcastFrame requestOf
  rw [hdest]

/-- A frame's own arrival does not change the node's address. -/
theorem frameArrives_address (p : Port) (s : State) : (s.frameArrives p).node.address = s.node.address := by
  rw [State.frameArrives_frame]

theorem wholeFrame_of_le {f : Frame} (h : f.payload.length ≤ 60) (p : Port) (s : State) :
    s.wholeFrame p f = (s.frameArrives p).deliver p f :=
  if_neg (Nat.not_lt.mpr h)

theorem wholeFrame_of_tooLong {f : Frame} (h : 60 < f.payload.length) (p : Port) (s : State) :
    s.wholeFrame p f = tooLong p (s.frameArrives p) :=
  (if_pos h).trans (frameTooLong_eq_tooLong ..)

/-- A frame of a kind for the Management Unit at this node's address, or at the broadcast address on port U, is its request. -/
theorem wholeFrame_request {p : Port} {f : Frame} {s : State} (hlen : f.payload.length ≤ 60) (hkind : managementKind f.kind = true)
    {all : Bool} (h : all = false ∧ f.dest.toNat % 64 = s.node.address ∨
      all = true ∧ f.dest.toNat % 64 ≠ s.node.address ∧ f.dest.toNat % 64 = 63) :
    s.wholeFrame p f = s.requestArrives (handlerOf f.kind) f.kind (requestOf f p all) := by
  rw [wholeFrame_of_le hlen]
  rw [← frameArrives_address p s] at h
  rcases h with ⟨rfl, hown⟩ | ⟨rfl, hother, hall⟩
  · rw [requestArrives_of_addressed hlen rfl, deliver_own_request hown hkind]
    rfl
  · rw [requestArrives_of_broadcast hlen rfl, deliver_broadcast hother hall]
    rfl

/-- A broadcast frame on port U of a kind that is carried out by no node is passed on as it is. -/
theorem deliver_broadcast_passedOn {f : Frame} {s : State} (h : f.dest.toNat % 64 ≠ s.node.address)
    (hall : f.dest.toNat % 64 = 63) (hkind : ¬ managementKind f.kind = true) : s.deliver .U f = s.forward .D f := by
  have hquiet : ¬ broadcastKind f.kind = true := fun hcarried => hkind <| by
    rcases (broadcastKind_iff f.kind).mp hcarried with h | h | h <;> rw [h] <;> rfl
  rw [deliver_broadcast h hall, broadcastRequest_of_port_U rfl, if_neg hquiet, broadcastFrame_requestOf hall]

/-! ### The statement -/

/-- FRAME_FORWARD and FRAME_DROP are both a whole frame's arrival. -/
theorem exec_wholeFrame {p : Port} {f : Frame} {c : Instr} (h : c ∈ ([.frameForward p f, .frameDrop p f] : List Instr))
    (s : State) : exec c s = .next (s.wholeFrame p f).finish := by
  simp only [List.mem_cons, List.not_mem_nil, or_false] at h
  rcases h with rfl | rfl <;> rfl

/-- Settles O43: each row of R166's table, for the frame as it was when it arrived. -/
theorem framesAreDeliveredByAddress : Obligations.FramesAreDeliveredByAddress := by
  unfold Obligations.FramesAreDeliveredByAddress
  refine ⟨fun p f s c hc => ?_, fun out f s => ⟨fun h => forward_of_place h f, fun h => forward_of_full h f⟩⟩
  intro s' a own asRequest
  have haddress : s'.node.address = s.node.address := frameArrives_address p s
  have hexec := exec_wholeFrame hc s
  refine ⟨fun hlong => by rw [hexec, wholeFrame_of_tooLong hlong], fun hlen => ?_⟩
  have hdeliver : ∀ {t : State}, s'.deliver p f = t → exec c s = .next t.finish := fun h => by
    rw [hexec, wholeFrame_of_le hlen, ← h]
  have hother : own = false → f.dest.toNat % 64 ≠ s'.node.address := fun h => haddress ▸ of_decide_eq_false h
  have hself : own = true → f.dest.toNat % 64 = s'.node.address := fun h => haddress ▸ of_decide_eq_true h
  have hnot : f.kind.toNat ∈ [1, 2, 3] ∨ 0x80 ≤ f.kind.toNat → ¬ managementKind f.kind = true :=
    fun hout hin => (managementKind_iff f.kind).mp hin hout
  have hrequest : own = true ∨ a = 63 ∧ p = .U → managementKind f.kind = true →
      exec c s = .next (s.requestArrives (handlerOf f.kind) f.kind (asRequest (!own))).finish := fun h hkind => by
    rw [hexec, wholeFrame_request hlen hkind (all := !own)]
    · rfl
    · cases hown : own with
      | true => exact .inl ⟨rfl, of_decide_eq_true hown⟩
      | false => exact .inr ⟨rfl, of_decide_eq_false hown, (h.resolve_left (hown ▸ Bool.false_ne_true)).1⟩
  refine ⟨fun h hleast hmost => hdeliver (deliver_elsewhere (hother h) hleast hmost), ?_, ?_, ?_,
    fun h hkind => hdeliver (deliver_own_other (hself h) (hnot hkind)), fun h => ⟨fun x hx hkind => ?_, fun hkind => ?_⟩, ?_,
    ?_, ?_, ?_⟩
  · rintro h hhead rfl
    exact hdeliver (deliver_lineHead (hother h) hhead)
  · rintro h hhead rfl
    exact hdeliver (deliver_lineHead (hother h) hhead)
  · rintro h hall rfl
    exact hdeliver ((deliver_broadcast (hother h) hall).trans (broadcastRequest_of_port_D rfl ..))
  · rw [exec_request hx, hrequest h (hkind ▸ managementKind_of_request hx), hkind]
  · rw [exec_otherKind hkind, hrequest h (managementKind_of_otherKind hkind)]
  · rintro h hall rfl hkind
    exact hdeliver (deliver_broadcast_passedOn (hother h) hall (hnot hkind))
  · intro h hnext hkind
    refine hdeliver ((deliver_nextHop (hother h) hnext).trans ?_)
    cases p <;> exact if_neg hkind
  · rintro h hnext rfl hkind
    rw [Entry.exec_notice, State.noticeArrives_of_le hlen]
    exact hdeliver ((deliver_nextHop (hother h) hnext).trans (if_pos hkind))
  · rintro h hnext rfl hkind
    have hcredit : ∀ {t : State}, s'.creditFrameIn f.payload = t → exec c s = .next t.finish := fun heq =>
      hdeliver ((deliver_nextHop (hother h) hnext).trans ((if_pos hkind).trans heq))
    refine ⟨fun v x hp => hcredit ?_, fun g r hp => hcredit ?_, fun hunfit => hcredit (creditFrameIn_other hunfit s')⟩
    · rw [hp, creditFrameIn_sync]
    · rw [hp, creditFrameIn_locked]

end Sys2Proof.Ports
end

section
/-! The end of an event is an end: once each free transmitter has taken what waits, another end changes nothing (R169). -/

namespace Sys2Proof.Arbiter

open Sys2Proof.Machine

/-- A transmitter has nothing to take: it is sending, or no source has a frame for it. -/
def Settled (p : Port) (s : State) : Prop := (s.lines.get p).tx.isSome = true ∨ s.choose p = none

theorem pump_of_settled {p : Port} {s : State} (h : Settled p s) : s.pump p = s := by
  by_cases hbusy : (s.lines.get p).tx.isSome = true
  · exact Transmit.pump_of_busy hbusy
  · exact Transmit.pump_of_nothing (Option.not_isSome_iff_eq_none.mp hbusy) (h.resolve_left hbusy)

theorem sourceWaits_of_choose {p : Port} {s : State} {c : Choice} (h : s.choose p = some c) : s.sourceWaits p c = true := by
  unfold State.choose at h
  split at h
  · next hurgent => exact Option.some.inj h ▸ hurgent.2
  · exact List.find?_some h

/-- A source that has a frame waiting starts it. -/
theorem startFrame_busy {p : Port} {s : State} {c : Choice} (h : s.sourceWaits p c = true) :
    ((s.startFrame p c).lines.get p).tx.isSome = true := by
  cases c with
  | credit => simp [State.startFrame, LinePort.startLocal]
  | notice =>
    obtain ⟨f, rest, hwaits⟩ := List.exists_cons_of_ne_nil (Transmit.notice_waits_iff.mp h).2
    simp [State.startFrame, hwaits, LinePort.startLocal]
  | response =>
    obtain ⟨f, rest, hwaits⟩ := List.exists_cons_of_ne_nil (Transmit.response_waits_iff.mp h)
    simp [State.startFrame, hwaits, LinePort.startLocal]
  | forward =>
    obtain ⟨f, rest, hwaits⟩ := List.exists_cons_of_ne_nil (Transmit.forward_waits_iff.mp h)
    simp [State.startFrame, hwaits]
  | report =>
    obtain rfl := (Transmit.report_waits_iff.mp h).1
    rfl

theorem settled_pump (p : Port) (s : State) : Settled p (s.pump p) := by
  by_cases hbusy : (s.lines.get p).tx.isSome = true
  · rw [Transmit.pump_of_busy hbusy]
    exact .inl hbusy
  have hfree := Option.not_isSome_iff_eq_none.mp hbusy
  cases hc : s.choose p with
  | none =>
    rw [Transmit.pump_of_nothing hfree hc]
    exact .inr hc
  | some c =>
    rw [Transmit.pump_of_choice hfree hc]
    exact .inl (startFrame_busy (sourceWaits_of_choose hc))

/-! ### Port D's transmitter and port U's -/

/-- Port U's transmitter and its sources. -/
def sourcesOfU (s : State) : LinePort × Nat × List Report × Nat := (s.lines.u, s.credit.waiting, s.reports, s.dropped)

theorem settled_of_sourcesOfU {s t : State} (h : sourcesOfU t = sourcesOfU s) (hs : Settled .U s) : Settled .U t := by
  obtain ⟨hline, hcredit, hreports, hdropped⟩ : t.lines.u = s.lines.u ∧ t.credit.waiting = s.credit.waiting ∧
      t.reports = s.reports ∧ t.dropped = s.dropped := by simpa [sourcesOfU] using h
  have hwaits : t.sourceWaits .U = s.sourceWaits .U := funext fun c => by
    cases c <;> simp [State.sourceWaits, Lines.get, hline, hcredit, hreports, hdropped]
  have hchoose : t.choose .U = s.choose .U := by
    unfold State.choose
    rw [hwaits, Lines.get, Lines.get, hline]
  refine hs.imp (fun hbusy => ?_) fun hnothing => hchoose.trans hnothing
  rw [← hbusy, Lines.get, Lines.get, hline]

/-- Port D's transmitter takes nothing from port U's sources. -/
theorem sourcesOfU_pump (s : State) : sourcesOfU (s.pump .D) = sourcesOfU s := by
  unfold State.pump
  split
  · rfl
  split
  · next c hc =>
    have hwaits := sourceWaits_of_choose hc
    cases c with
    | credit => exact absurd (Transmit.credit_waits_iff.mp hwaits).1 nofun
    | report => exact absurd (Transmit.report_waits_iff.mp hwaits).1 nofun
    | notice => simp only [State.startFrame]; split <;> rfl
    | response => simp only [State.startFrame]; split <;> rfl
    | forward => simp only [State.startFrame]; split <;> rfl
  · rfl

/-! ### The end of an event -/

theorem beltRun_finish (s : State) : s.finish.beltRun = s.beltRun := by
  unfold State.beltRun
  rw [State.finish_node, State.finish_exitHold]

theorem finish_finish (s : State) : s.finish.finish = s.finish := by
  have hD : Settled .D s.finish := settled_pump .D _
  have hU : Settled .U s.finish := settled_of_sourcesOfU (sourcesOfU_pump _) (settled_pump .U _)
  have hwindow : { s.finish with pos := { s.finish.pos with
      windowDriven := s.finish.pos.windowDriven && s.finish.beltRun } } = s.finish := by
    rw [beltRun_finish, State.finish_pos, Bool.and_assoc, Bool.and_self, ← State.finish_pos]
  rw [State.finish, hwindow, pump_of_settled hU, pump_of_settled hD]

end Sys2Proof.Arbiter
end

section
/-! Characters: what a line carries of one, and what a receiver makes of a run of them (R162 to R164). -/

namespace Sys2Proof.Receiver

open Sys2Proof.Machine Sys2Proof.Claims

/-! ### One character on a line (R162) -/

/-- A number's bits, lowest first, put together again. -/
theorem foldr_testBit (m i n : Nat) :
    ((List.range' i n).map m.testBit).foldr (fun b r => 2 * r + b.toNat) 0 = m / 2 ^ i % 2 ^ n := by
  induction n generalizing i with
  | zero => rw [Nat.pow_zero, Nat.mod_one]; rfl
  | succ n ih =>
    rw [List.range'_succ, List.map_cons, List.foldr_cons, ih, Nat.toNat_testBit, pow_succ 2 i, pow_succ' 2 n,
      ← Nat.div_div_eq_div_mul, Nat.mod_mul, Nat.add_comm]

theorem byteOfBits_bits (d : Byte) : byteOfBits ([0, 1, 2, 3, 4, 5, 6, 7].map d.getLsbD) = d := by
  have hbits : ([0, 1, 2, 3, 4, 5, 6, 7].map d.getLsbD).foldr (fun b r => 2 * r + b.toNat) 0 = d.toNat := by
    have h := foldr_testBit d.toNat 0 8
    rwa [Nat.pow_zero, Nat.div_one, Nat.mod_eq_of_lt d.isLt] at h
  rw [byteOfBits, hbits, Totes.byte_toNat]

theorem charOfBits_bits (c : LineChar) : charOfBits c.gap c.bits = some c := by
  have hread : charOfBits c.gap c.bits =
      some ⟨byteOfBits ([0, 1, 2, 3, 4, 5, 6, 7].map c.data.getLsbD), c.mark, !!c.framingError, c.gap⟩ := rfl
  rw [hread, byteOfBits_bits, Bool.not_not]

theorem bits_data (c : LineChar) {n : Nat} (h : n < 8) : c.bits[n + 1]? = some (c.data.getLsbD n) := by
  have hdata : [0, 1, 2, 3, 4, 5, 6, 7][n]? = some n := by
    rw [show ([0, 1, 2, 3, 4, 5, 6, 7] : List Nat) = List.range 8 from rfl, List.getElem?_range h]
  rw [LineChar.bits, List.cons_append, List.getElem?_cons_succ, List.getElem?_append_left (by simpa using h),
    List.getElem?_map, hdata]
  rfl

/-! ### A frame's characters -/

/-- Characters without a mark, in time and without a framing error. -/
def plain (bs : List Byte) : List LineChar := bs.map (⟨·, false, false, false⟩)

theorem charsOf_cons (d : Byte) (bs : List Byte) : charsOf (d :: bs) = ⟨d, true, false, false⟩ :: plain bs := rfl

theorem charsOf_getElem? {bs : List Byte} {n : Nat} {c : LineChar} (h : (charsOf bs)[n]? = some c) :
    bs[n]? = some c.data ∧ (c.mark = true ↔ n = 0) ∧ c.framingError = false ∧ c.gap = false := by
  cases bs with
  | nil => cases h
  | cons d bs =>
    cases n with
    | zero =>
      cases h
      exact ⟨rfl, ⟨fun _ => rfl, fun _ => rfl⟩, rfl, rfl⟩
    | succ n =>
      rw [charsOf_cons, List.getElem?_cons_succ, plain, List.getElem?_map, Option.map_eq_some_iff] at h
      obtain ⟨b, hb, rfl⟩ := h
      exact ⟨hb, ⟨nofun, nofun⟩, rfl, rfl⟩

theorem body_eq (f : Frame) : f.body = [f.dest, f.src, f.kind, f.tag, byte f.payload.length] ++ f.payload := rfl

theorem check_eq (f : Frame) : f.check = [(crc f.body).extractLsb' 8 8, (crc f.body).extractLsb' 0 8] := by
  rw [← Totes.byte_div, ← Totes.byte_div, Nat.pow_zero, Nat.div_one]
  rfl

/-! ### The receiver's table (R163) -/

theorem rxChar_of_receiverTable {rx : RxState} {c : LineChar} {x : RxState × RxResult} (h : receiverTable rx c = some x) :
    rxChar rx c = x ∧ (x.2 = .quiet ∨ x.2 = .abandoned) := by
  unfold receiverTable at h
  unfold rxChar
  cases rx with
  | idle =>
    obtain rfl := Option.some.inj h
    cases c.mark <;> cases c.framingError <;> exact ⟨rfl, .inl rfl⟩
  | inFrame got =>
    simp only [] at h ⊢
    split at h
    · next herror => rw [if_pos herror]; exact ⟨Option.some.inj h, .inr (by cases h; rfl)⟩
    next herror =>
    rw [if_neg herror]
    split at h
    · next hmark => rw [if_pos hmark]; exact ⟨Option.some.inj h, .inr (by cases h; rfl)⟩
    next hmark =>
    rw [if_neg hmark]
    split at h
    · next hgap => rw [if_pos hgap]; exact ⟨Option.some.inj h, .inr (by cases h; rfl)⟩
    · cases h

/-- The receiver waits for more characters after these bytes: LEN has not come, or is one the bus carries and there are fewer than
LEN + 7. -/
def Unfinished (got : List Byte) : Prop := ∀ len : Byte, got[4]? = some len → len.toNat ≤ 60 ∧ got.length < len.toNat + 7

theorem Unfinished.of_append {got more : List Byte} (h : Unfinished (got ++ more)) : Unfinished got := fun len hlen => by
  obtain ⟨hin, _⟩ := List.getElem?_eq_some_iff.mp hlen
  obtain ⟨hfits, hshort⟩ := h len (by rwa [List.getElem?_append_left hin])
  rw [List.length_append] at hshort
  exact ⟨hfits, by omega⟩

theorem rxAdded_of_unfinished {got : List Byte} (h : Unfinished got) : rxAdded got = (.inFrame got, .quiet) := by
  unfold rxAdded
  split
  · obtain ⟨hfits, hshort⟩ := h _ rfl
    exact (if_neg (Nat.not_lt.mpr hfits)).trans (if_pos hshort)
  · rfl

theorem rxAdded_of_tooLong (dest src kind tag : Byte) {len : Byte} (h : 60 < len.toNat) :
    rxAdded [dest, src, kind, tag, len] = (.idle, .abandoned) := if_pos h

theorem toNat_len {n : Nat} (h : n ≤ 60) : (byte n).toNat = n := by
  rw [byte, BitVec.toNat_ofNat]
  omega

theorem checkedFrame_body {f : Frame} (h : f.payload.length ≤ 60) (cs : List Byte) :
    checkedFrame (f.body ++ cs) = if cs = f.check then some f else none := by
  rw [body_eq, List.append_assoc, List.cons_append, List.cons_append, List.cons_append, List.cons_append, List.cons_append,
    List.nil_append, Queues.checkedFrame_cons, toNat_len h, List.drop_left, List.take_left]
  rfl

/-- The last of LEN + 7 characters. -/
theorem rxAdded_of_last (dest src kind tag : Byte) {len : Byte} {rest : List Byte} (hfits : len.toNat ≤ 60)
    (hlast : rest.length = len.toNat + 2) : rxAdded (dest :: src :: kind :: tag :: len :: rest) =
      (.idle, ((checkedFrame (dest :: src :: kind :: tag :: len :: rest)).map RxResult.complete).getD .abandoned) := by
  refine (if_neg (Nat.not_lt.mpr hfits)).trans ((if_neg ?_).trans ?_)
  · simp only [List.length_cons]
    omega
  · cases checkedFrame (dest :: src :: kind :: tag :: len :: rest) <;> rfl

/-- A frame's last character: complete if its CHECK holds, abandoned if not. -/
theorem rxAdded_body {f : Frame} (h : f.payload.length ≤ 60) (a b : Byte) :
    rxAdded (f.body ++ [a, b]) = (.idle, if [a, b] = f.check then .complete f else .abandoned) := by
  have hlen := toNat_len h
  have hlast : rxAdded (f.body ++ [a, b]) =
      (.idle, ((checkedFrame (f.body ++ [a, b])).map RxResult.complete).getD .abandoned) :=
    rxAdded_of_last (len := byte f.payload.length) (rest := f.payload ++ [a, b]) _ _ _ _ (hlen.trans_le h)
      (by rw [hlen, List.length_append]; rfl)
  rw [hlast, checkedFrame_body h]
  split <;> rfl

/-! ### A run of characters -/

theorem receive_append (rx : RxState) (cs ds : List LineChar) : receive rx (cs ++ ds) =
    ((receive (receive rx cs).1 ds).1, (receive rx cs).2 ++ (receive (receive rx cs).1 ds).2) := by
  induction cs generalizing rx with
  | nil => rfl
  | cons c cs ih => rw [List.cons_append, receive, ih]; rfl

theorem receive_plain {got bs : List Byte} (h : Unfinished (got ++ bs)) :
    receive (.inFrame got) (plain bs) = (.inFrame (got ++ bs), List.replicate bs.length .quiet) := by
  induction bs generalizing got with
  | nil => rw [List.append_nil]; rfl
  | cons b bs ih =>
    rw [List.append_cons] at h ⊢
    have hchar : rxChar (.inFrame got) ⟨b, false, false, false⟩ = (.inFrame (got ++ [b]), .quiet) :=
      rxAdded_of_unfinished h.of_append
    rw [plain, List.map_cons, receive, hchar, ← plain, ih h]
    rfl

/-- A marked character and more, up to the one that ends them. -/
theorem receive_run {d : Byte} {bs : List Byte} (h : Unfinished (d :: bs)) (b : Byte) :
    receive .idle (charsOf (d :: bs ++ [b])) =
      ((rxAdded (d :: bs ++ [b])).1, List.replicate (bs.length + 1) .quiet ++ [(rxAdded (d :: bs ++ [b])).2]) := by
  have hplain : plain (bs ++ [b]) = plain bs ++ [⟨b, false, false, false⟩] := List.map_append
  have hfirst : rxChar .idle ⟨d, true, false, false⟩ = (.inFrame [d], .quiet) := rfl
  rw [List.cons_append, charsOf_cons, hplain, receive, hfirst, receive_append, receive_plain h]
  rfl

end Sys2Proof.Receiver
end

section
/-! Characters at a port: what arrives character by character ends as what arrives whole (R162 to R164, log 10). -/

namespace Sys2Proof.Receiver

open Sys2Proof.Machine Sys2Proof.Claims

/-! ### A port in the middle of a frame -/

/-- The port has received these bytes of a frame. -/
def receiving (p : Port) (got : List Byte) (s : State) : State := s.modPort p fun x => { x with rx := .inFrame got }

theorem receiving_rx (p : Port) (got : List Byte) (s : State) : ((receiving p got s).lines.get p).rx = .inFrame got := by
  cases p <;> rfl

theorem receiving_receiving (p : Port) (got got' : List Byte) (s : State) :
    receiving p got (receiving p got' s) = receiving p got s := by
  cases p <;> rfl

/-- A receiver that is idle again is as it was before the frame. -/
theorem idle_receiving {p : Port} {s : State} (h : (s.lines.get p).rx = .idle) (got : List Byte) :
    ((receiving p got s).modPort p fun x => { x with rx := .idle }) = s := by
  cases p
  all_goals
    rw [receiving, State.modPort, State.modPort]
    simp only [Lines.get, Lines.put] at h ⊢
    rw [← h]

/-! ### A frame in progress (R163) -/

theorem frameArrives_of_idle {p : Port} {s : State} (h : (s.lines.get p).rx = .idle) : s.frameArrives p = s := by
  unfold State.frameArrives
  rw [h]

theorem frameArrives_of_inFrame {p : Port} {s : State} {got : List Byte} (h : (s.lines.get p).rx = .inFrame got) :
    s.frameArrives p = tooLong p (s.modPort p fun x => { x with rx := .idle }) := by
  unfold State.frameArrives
  rw [h]
  exact Ports.frameTooLong_eq_tooLong ..

theorem frameArrives_rx (p : Port) (s : State) : ((s.frameArrives p).lines.get p).rx = .idle := by
  cases h : (s.lines.get p).rx with
  | idle => rw [frameArrives_of_idle h, h]
  | inFrame got => rw [frameArrives_of_inFrame h]; cases p <;> rfl

/-! ### One character at a port -/

section
variable {p : Port} {s : State} {c : LineChar} {rx : RxState}

theorem lineChar_of_quiet (h : rxChar (s.lines.get p).rx c = (rx, .quiet)) :
    s.lineChar p c = s.modPort p fun x => { x with rx := rx } := by
  unfold State.lineChar
  rw [h]

theorem lineChar_of_abandoned (h : rxChar (s.lines.get p).rx c = (rx, .abandoned)) :
    s.lineChar p c = tooLong p (s.modPort p fun x => { x with rx := rx }) := by
  unfold State.lineChar
  rw [h]
  exact Ports.frameTooLong_eq_tooLong ..

theorem lineChar_of_complete {f : Frame} (h : rxChar (s.lines.get p).rx c = (rx, .complete f)) :
    s.lineChar p c = ((s.modPort p fun x => { x with rx := rx }).deliver p f).finish := by
  unfold State.lineChar
  rw [h]

end

/-- A marked character begins a frame, and abandons one in progress. -/
theorem lineChar_marked (p : Port) (d : Byte) (s : State) :
    s.lineChar p ⟨d, true, false, false⟩ = receiving p [d] (s.frameArrives p) := by
  cases h : (s.lines.get p).rx with
  | idle =>
    rw [frameArrives_of_idle h]
    exact lineChar_of_quiet (by rw [h]; rfl)
  | inFrame got =>
    rw [frameArrives_of_inFrame h, lineChar_of_abandoned (rx := .inFrame [d]) (by rw [h]; rfl)]
    cases p <;> rfl

theorem foldl_lineChar_plain (p : Port) {got bs : List Byte} (h : Unfinished (got ++ bs)) (s : State) :
    (plain bs).foldl (State.lineChar p) (receiving p got s) = receiving p (got ++ bs) s := by
  induction bs generalizing got with
  | nil => rw [List.append_nil]; rfl
  | cons b bs ih =>
    rw [List.append_cons] at h ⊢
    have hadded : rxChar ((receiving p got s).lines.get p).rx ⟨b, false, false, false⟩ = (.inFrame (got ++ [b]), .quiet) := by
      rw [receiving_rx]
      exact rxAdded_of_unfinished h.of_append
    have hchar : (receiving p got s).lineChar p ⟨b, false, false, false⟩ = receiving p (got ++ [b]) s :=
      (lineChar_of_quiet hadded).trans (receiving_receiving ..)
    rw [plain, List.map_cons, List.foldl_cons, hchar, ← plain, ih h]

/-- A run of characters is a frame's arrival up to its last character. -/
theorem foldl_lineChar_run (p : Port) {d : Byte} {bs : List Byte} (h : Unfinished (d :: bs)) (b : Byte) (s : State) :
    (charsOf (d :: bs ++ [b])).foldl (State.lineChar p) s =
      (receiving p (d :: bs) (s.frameArrives p)).lineChar p ⟨b, false, false, false⟩ := by
  have hplain : plain (bs ++ [b]) = plain bs ++ [⟨b, false, false, false⟩] := List.map_append
  rw [List.cons_append, charsOf_cons, hplain, List.foldl_cons, List.foldl_append, lineChar_marked,
    foldl_lineChar_plain p (got := [d]) h]
  rfl

theorem rxChar_receiving (p : Port) (got : List Byte) (b : Byte) (s : State) :
    rxChar ((receiving p got s).lines.get p).rx ⟨b, false, false, false⟩ = rxAdded (got ++ [b]) := by
  rw [receiving_rx]
  rfl

/-- A run whose last character abandons the frame. -/
theorem exec_abandoned_run (p : Port) {d b : Byte} {bs : List Byte} (h : Unfinished (d :: bs))
    (hlast : rxAdded (d :: bs ++ [b]) = (.idle, .abandoned)) (s : State) :
    exec (.frameAbandon p (charsOf (d :: bs ++ [b]))) s = .next (tooLong p (s.frameArrives p)).finish := by
  have hexec : exec (.frameAbandon p (charsOf (d :: bs ++ [b]))) s =
      .next ((charsOf (d :: bs ++ [b])).foldl (State.lineChar p) s).finish := rfl
  rw [hexec, foldl_lineChar_run p h, lineChar_of_abandoned ((rxChar_receiving ..).trans hlast),
    idle_receiving (frameArrives_rx p s)]

/-- A run whose last character completes a frame, delivered once more as one event. -/
theorem exec_complete_run (p : Port) {d b : Byte} {bs : List Byte} (h : Unfinished (d :: bs)) {f : Frame}
    (hlast : rxAdded (d :: bs ++ [b]) = (.idle, .complete f)) (s : State) :
    exec (.frameAbandon p (charsOf (d :: bs ++ [b]))) s = .next ((s.frameArrives p).deliver p f).finish := by
  have hexec : exec (.frameAbandon p (charsOf (d :: bs ++ [b]))) s =
      .next ((charsOf (d :: bs ++ [b])).foldl (State.lineChar p) s).finish := rfl
  rw [hexec, foldl_lineChar_run p h, lineChar_of_complete ((rxChar_receiving ..).trans hlast),
    idle_receiving (frameArrives_rx p s), Arbiter.finish_finish]

/-- One character that the receiver's table takes (R163). -/
theorem exec_tableChar {p : Port} {s : State} {c : LineChar} {x : RxState × RxResult}
    (h : receiverTable (s.lines.get p).rx c = some x) : exec (.frameAbandon p [c]) s = .next
      (if x.2 = .abandoned then tooLong p (s.modPort p fun y => { y with rx := x.1 })
      else s.modPort p fun y => { y with rx := x.1 }).finish := by
  have hexec : exec (.frameAbandon p [c]) s = .next (s.lineChar p c).finish := rfl
  obtain ⟨hchar, hquiet | habandoned⟩ := rxChar_of_receiverTable h
  · rw [hexec, lineChar_of_quiet (rx := x.1) (by rw [hchar, ← hquiet]), if_neg (by rw [hquiet]; nofun)]
  · rw [hexec, lineChar_of_abandoned (rx := x.1) (by rw [hchar, ← habandoned]), if_pos habandoned]

/-! ### The statement -/

/-- A frame's bytes after DEST, with the first of its CHECK bytes. -/
def middle (f : Frame) (a : Byte) : List Byte := [f.src, f.kind, f.tag, byte f.payload.length] ++ f.payload ++ [a]

theorem body_append (f : Frame) (a b : Byte) : f.body ++ [a, b] = f.dest :: middle f a ++ [b] := by
  rw [body_eq, middle, List.append_cons]
  simp only [List.cons_append, List.nil_append, List.append_assoc]

theorem length_middle (f : Frame) (a : Byte) : (middle f a).length + 1 = f.payload.length + 6 := by
  simp [middle]

theorem unfinished_middle {f : Frame} (h : f.payload.length ≤ 60) (a : Byte) : Unfinished (f.dest :: middle f a) := by
  intro len hlen
  obtain rfl : byte f.payload.length = len := Option.some.inj hlen
  rw [toNat_len h, List.length_cons, length_middle]
  exact ⟨h, Nat.lt_succ_self _⟩

theorem chars_eq (f : Frame) : f.chars = charsOf (f.body ++ f.check) := rfl

/-- A receiver's run over a frame with these two CHECK bytes. -/
theorem receive_body {f : Frame} (h : f.payload.length ≤ 60) (a b : Byte) : receive .idle (charsOf (f.body ++ [a, b])) =
    (.idle, List.replicate (f.payload.length + 6) .quiet ++ [if [a, b] = f.check then .complete f else .abandoned]) := by
  rw [body_append, receive_run (unfinished_middle h a), ← body_append, rxAdded_body h, length_middle]

theorem receive_tooLong (dest src kind tag : Byte) {len : Byte} (h : 60 < len.toNat) :
    receive .idle (charsOf [dest, src, kind, tag, len]) = (.idle, [.quiet, .quiet, .quiet, .quiet, .abandoned]) := by
  have hrun := receive_run (d := dest) (bs := [src, kind, tag]) nofun len
  have hlast : rxAdded (dest :: [src, kind, tag] ++ [len]) = (.idle, .abandoned) := rxAdded_of_tooLong dest src kind tag h
  rw [hlast] at hrun
  exact hrun

/-- Settles O45: bits are read back, and a run of characters leaves the port where the frame's arrival leaves it. -/
theorem framesSentAreFramesReceived : Obligations.FramesSentAreFramesReceived := by
  unfold Obligations.FramesSentAreFramesReceived
  refine ⟨fun f => ⟨body_eq f, check_eq f, chars_eq f⟩, fun s p => ?_,
    fun c => ⟨rfl, rfl, fun n h => bits_data c h, rfl, rfl, charOfBits_bits c⟩, fun bs n c h => charsOf_getElem? h,
    fun p s c x h => ?_, fun f h => ?_, fun p f s h => ?_, fun p f s a b h hcheck => ⟨?_, ?_⟩,
    fun p s dest src kind tag len h => ⟨?_, ?_⟩, fun p s => ⟨frameArrives_of_idle, fun got => frameArrives_of_inFrame⟩⟩
  · cases p <;> rfl
  · exact exec_tableChar h
  · rw [chars_eq, check_eq, receive_body h, ← check_eq, if_pos rfl]
    exact ⟨rfl, rfl⟩
  · have hlast := rxAdded_body h ((crc f.body).extractLsb' 8 8) ((crc f.body).extractLsb' 0 8)
    rw [← check_eq, if_pos rfl, check_eq, body_append] at hlast
    rw [chars_eq, check_eq, body_append, exec_complete_run p (unfinished_middle h _) hlast,
      Ports.exec_wholeFrame (List.mem_cons_self ..), Ports.wholeFrame_of_le h]
  · rw [receive_body h, if_neg hcheck]
  · have hlast := rxAdded_body h a b
    rw [if_neg hcheck, body_append] at hlast
    rw [body_append, exec_abandoned_run p (unfinished_middle h a) hlast]
  · exact congrArg Prod.snd (receive_tooLong dest src kind tag h)
  · exact exec_abandoned_run p (bs := [src, kind, tag]) nofun (rxAdded_of_tooLong dest src kind tag h) s

end Sys2Proof.Receiver
end

section
/-! Refusals: a request is answered DONE, or refused in the state that it found (R173 to R175). -/

namespace Sys2Proof.Requests

open Sys2Proof.Machine Sys2Proof.Claims

/-! ### DONE, or a refusal (R173, R175) -/

/-- What a request's handler may return from a state: DONE and any state, or a refusal and that same state. -/
inductive Answered (s : State) : State × List Byte → Prop
  | done (t : State) (fields : List Byte) : Answered s (t, doneWith fields)
  | refused (code : Nat) (d1 d2 : Byte) : Answered s (s, refusal code d1 d2)

namespace Answered

variable {s : State} {x y : State × List Byte}

theorem ite {c : Prop} [Decidable c] (hx : Answered s x) (hy : Answered s y) : Answered s (if c then x else y) := by
  split
  · exact hx
  · exact hy

theorem payload_ne_nil (h : Answered s x) : x.2 ≠ [] := by
  cases h with
  | done => exact nofun
  | refused => exact nofun

theorem state_of_not_done (h : Answered s x) (hstatus : x.2.head? ≠ some 0x00) : x.1 = s := by
  cases h with
  | done => exact absurd rfl hstatus
  | refused => rfl

/-- A parameter pair is refused by its id, its value or the node state (R177). -/
theorem of_pairRefusal {p : Byte × Nat} {r : List Byte} (h : s.pairRefusal p = some r) : Answered s (s, r) := by
  unfold State.pairRefusal at h
  split at h
  · cases h; exact .refused ..
  split at h
  · cases h; exact .refused ..
  split at h
  · cases h; exact .refused ..
  · cases h

/-- A spur refuses a tote by its state, its list or the tag (R100). -/
theorem of_spurRefusal {i : Ix} {d : Ident} {r : List Byte} (h : s.spurRefusal i d = some r) : Answered s (s, r) := by
  unfold State.spurRefusal at h
  split at h
  · cases h; exact .refused ..
  split at h
  · cases h; exact .refused ..
  split at h
  · cases h; exact .refused ..
  · cases h

end Answered

/-! ### The handlers (R174) -/

/-- Whatever the payload and the state, the handler answers DONE or refuses in that state. -/
def Answers (op : Handler) : Prop := ∀ p s, Answered s (op p s)

theorem answers_inquire : Answers reqInquire := fun _ _ => .ite (.done ..) (.refused ..)

theorem answers_setParameters : Answers reqSetParameters := fun p s => by
  refine .ite ?_ (.refused ..)
  split
  · next hr =>
    obtain ⟨x, _, hx⟩ := List.exists_of_findSome?_eq_some hr
    exact .of_pairRefusal hx
  · exact .done ..

theorem answers_readParameters : Answers reqReadParameters := fun p s => by
  refine .ite ?_ (.refused ..)
  split
  · exact .refused ..
  · exact .done ..

theorem answers_routeWrite : Answers reqRouteWrite := fun p s => by
  unfold reqRouteWrite
  split
  · refine .ite (.refused ..) (.ite (.refused ..) ?_)
    split
    · exact .refused ..
    · exact .done ..
  · exact .refused ..

theorem answers_routeCommit : Answers reqRouteCommit := fun _ _ => .ite (.done ..) (.refused ..)

theorem answers_routeRead : Answers reqRouteRead := fun p s => by
  unfold reqRouteRead
  split
  · exact .ite (.refused ..) (.ite (.refused ..) (.ite (.refused ..) (.done ..)))
  · exact .refused ..

theorem answers_spurNotice : Answers reqSpurNotice := fun p s => by
  unfold reqSpurNotice
  split
  · exact .refused ..
  split
  · exact .refused ..
  split
  · next hr => exact .of_spurRefusal hr
  · exact .done ..

theorem answers_spurRestore : Answers reqSpurRestore := fun p s => by
  unfold reqSpurRestore
  split
  · split
    · exact .refused ..
    · exact .ite (.done ..) (.refused ..)
  · exact .refused ..

theorem answers_bayClear : Answers reqBayClear := fun p s => by
  unfold reqBayClear
  split
  · split
    · exact .refused ..
    · exact .ite (.refused ..) (.done ..)
  · exact .refused ..

theorem answers_listRead : Answers reqListRead := fun p s => by
  unfold reqListRead
  split
  · split
    · exact .refused ..
    · exact .ite (.refused 0x0A _ _) (.done ..)
  · exact .refused ..

theorem answers_counterSetup : Answers reqCounterSetup := fun p s => by
  unfold reqCounterSetup
  split
  · refine .ite (.refused ..) ?_
    split
    · exact .refused ..
    · exact .ite (.refused ..) (.ite (.refused ..) (.done ..))
  · exact .refused ..

theorem answers_counterRead : Answers reqCounterRead := fun _ _ => .ite (.done ..) (.refused ..)

theorem answers_counterClear : Answers reqCounterClear := fun p s => by
  unfold reqCounterClear
  split
  · exact .ite (.refused ..) (.done ..)
  · exact .refused ..

theorem answers_start : Answers reqStart := fun p s => by
  refine .ite (.refused ..) (.ite (.refused ..) (.ite (.refused ..) ?_))
  split
  · exact .refused ..
  · exact .done ..

theorem answers_halt : Answers reqHalt := fun p s => by
  refine .ite (.refused ..) ?_
  split
  · exact .refused ..
  · exact .done ..
  · exact .done ..

theorem answers_resume : Answers reqResume := fun _ _ =>
  .ite (.refused ..) (.ite (.refused ..) (.ite (.refused ..) (.done ..)))

theorem answers_config : Answers reqConfig := fun _ _ =>
  .ite (.refused ..) (.ite (.done ..) (.done ..))

theorem answers_nodeReset : Answers reqNodeReset := fun _ _ => .ite (.refused ..) (.done ..)

theorem answers_handlerOf (kind : Byte) : Answers (handlerOf kind) := by
  unfold handlerOf
  split
  · exact answers_inquire
  · exact answers_setParameters
  · exact answers_readParameters
  · exact answers_routeWrite
  · exact answers_routeCommit
  · exact answers_routeRead
  · exact answers_spurNotice
  · exact answers_spurRestore
  · exact answers_bayClear
  · exact answers_listRead
  · exact answers_counterSetup
  · exact answers_counterRead
  · exact answers_counterClear
  · exact answers_start
  · exact answers_halt
  · exact answers_resume
  · exact answers_config
  · exact answers_nodeReset
  · exact fun _ _ => .refused ..

/-! ### The LEN of a kind (R174) -/

/-- The handler refuses every payload whose LEN is none of these. -/
def TakesLengths (lens : List Nat) (op : Handler) : Prop := ∀ p s, p.length ∉ lens → op p s = (s, badLength p)

/-- A kind without payload. -/
theorem takesLengths_zero {op : Handler} (h : ∀ p s, p ≠ [] → op p s = (s, badLength p)) : TakesLengths [0] op :=
  fun p s hlen => h p s fun hnil => hlen (hnil ▸ List.mem_singleton_self 0)

theorem takesLengths_routeRead : TakesLengths [3] reqRouteRead := fun p s hlen => by
  unfold reqRouteRead
  split
  · exact absurd (List.mem_singleton_self 3) hlen
  · rfl

theorem takesLengths_spurNotice : TakesLengths [10, 13] reqSpurNotice := fun p s hlen => by
  refine Spurs.reqSpurNotice_of_unfit ?_
  unfold decodeSpurNotice
  split
  · exact absurd (List.mem_cons_self ..) hlen
  · exact absurd (List.mem_cons_of_mem _ (List.mem_singleton_self 13)) hlen
  · rfl

theorem takesLengths_spurRestore : TakesLengths [1] reqSpurRestore := fun p s hlen => by
  unfold reqSpurRestore
  split
  · exact absurd (List.mem_singleton_self 1) hlen
  · rfl

theorem takesLengths_bayClear : TakesLengths [2] reqBayClear := fun p s hlen => by
  unfold reqBayClear
  split
  · exact absurd (List.mem_singleton_self 2) hlen
  · rfl

theorem takesLengths_listRead : TakesLengths [2] reqListRead := fun p s hlen => by
  unfold reqListRead
  split
  · exact absurd (List.mem_singleton_self 2) hlen
  · rfl

theorem takesLengths_counterSetup : TakesLengths [4] reqCounterSetup := fun p s hlen => by
  unfold reqCounterSetup
  split
  · exact absurd (List.mem_singleton_self 4) hlen
  · rfl

theorem takesLengths_counterClear : TakesLengths [1] reqCounterClear := fun p s hlen => by
  unfold reqCounterClear
  split
  · exact absurd (List.mem_singleton_self 1) hlen
  · rfl

theorem takesLengths_of_fixed {x : Byte × List Nat} (h : x ∈ fixedLengths) : TakesLengths x.2 (handlerOf x.1) := by
  simp only [fixedLengths, List.mem_cons, List.not_mem_nil, or_false] at h
  rcases h with rfl | rfl | rfl | rfl | rfl | rfl | rfl | rfl | rfl | rfl | rfl | rfl | rfl | rfl | rfl
  · exact takesLengths_zero fun _ _ hp => if_neg hp
  · exact takesLengths_zero fun _ _ hp => if_neg hp
  · exact takesLengths_routeRead
  · exact takesLengths_spurNotice
  · exact takesLengths_spurRestore
  · exact takesLengths_bayClear
  · exact takesLengths_listRead
  · exact takesLengths_counterSetup
  · exact takesLengths_zero fun _ _ hp => if_neg hp
  · exact takesLengths_counterClear
  all_goals exact takesLengths_zero fun _ _ hp => if_pos hp

/-- Settles O16: every handler answers DONE or refuses in the state it found, and tests the LEN before all else. -/
theorem refusedRequestsChangeNothing : Obligations.RefusedRequestsChangeNothing := by
  unfold Obligations.RefusedRequestsChangeNothing
  intro kind p s
  have hanswer := answers_handlerOf kind p s
  exact ⟨hanswer.payload_ne_nil, hanswer.state_of_not_done, fun x hx hlen => takesLengths_of_fixed hx p s hlen,
    fun hlen => if_neg hlen, fun hlen => if_neg hlen⟩

end Sys2Proof.Requests
end

section
/-! Event counters: what an offered event adds, and the requests that set counters up and clear them (R181 to R183). -/

namespace Sys2Proof.Requests

open Sys2Proof.Machine Sys2Proof.Claims

/-! ### An offered event (R181) -/

theorem takesClass_eq (c : Counter) (k : Cls) : c.takesClass k = c.classMask.getLsbD (classBit k) := by
  rw [Belt.classBit_eq]
  rfl

/-- The event is the counter's own, and its class and qualifier, where it has them, are in the masks. -/
def Counts (e : EventCode) (k : Option Cls) (q : Option Nat) (c : Counter) : Prop :=
  c.event = e ∧ e ≠ .none ∧ (∀ x, k = some x → c.classMask.getLsbD (classBit x) = true) ∧
    ∀ x, q = some x → c.qualMask.getLsbD x = true

theorem counts_iff (e : EventCode) (k : Option Cls) (q : Option Nat) (c : Counter) :
    (c.event = e ∧ e ≠ .none ∧ k.all c.takesClass = true ∧ q.all c.takesQual = true) ↔ Counts e k q c := by
  simp only [Option.all_eq_true, takesClass_eq]
  rfl

section Offered

variable {e : EventCode} {k : Option Cls} {q : Option Nat} {c : Counter}

theorem offered_of_counts (h : Counts e k q c) :
    Counter.offered e k q c = { c with value := min 4294967295 (c.value + 1) } :=
  if_pos ((counts_iff e k q c).mpr h)

theorem offered_of_not_counts (h : ¬ Counts e k q c) : Counter.offered e k q c = c :=
  if_neg (mt (counts_iff e k q c).mp h)

end Offered

/-! ### COUNTER SETUP (R182) -/

theorem ofCode_of_mem {ev : EventCode} {e : Byte} (h : (ev, e) ∈ eventCodes) : EventCode.ofCode e.toNat = some ev := by
  have hcodes : ∀ x ∈ eventCodes, EventCode.ofCode x.2.toNat = some x.1 := by decide
  exact hcodes _ h

theorem ofCode_of_le {n : Nat} (h : n ≤ 0x11) : ∃ ev, EventCode.ofCode n = some ev :=
  ⟨_, List.getElem?_eq_getElem (Nat.lt_succ_of_le h)⟩

theorem ofCode_of_gt {n : Nat} (h : 0x12 ≤ n) : EventCode.ofCode n = none := List.getElem?_eq_none h

section Setup

variable {n e cm qm : Byte} {s : State}

theorem reqCounterSetup_of_no_counter (h : 4 ≤ n.toNat) : reqCounterSetup [n, e, cm, qm] s = (s, [0x0A, n, 0xFF]) := if_pos h

variable (hn : n.toNat ≤ 3)

include hn

theorem reqCounterSetup_of_no_event (he : 0x12 ≤ e.toNat) : reqCounterSetup [n, e, cm, qm] s = (s, [0x04, 0x01, 0xFF]) := by
  simp only [reqCounterSetup, if_neg (Nat.not_lt.mpr hn), ofCode_of_gt he]
  rfl

/-- The masks are tested in payload order. -/
theorem reqCounterSetup_of_event {ev : EventCode} (he : EventCode.ofCode e.toNat = some ev) :
    reqCounterSetup [n, e, cm, qm] s =
      if 4 ≤ cm.toNat then (s, [0x04, 0x02, 0xFF])
      else if 16 ≤ qm.toNat then (s, [0x04, 0x03, 0xFF])
      else ({ s with counters := s.counters.set n.toNat ⟨ev, cm, qm, 0⟩ }, [0x00]) := by
  simp only [reqCounterSetup, if_neg (Nat.not_lt.mpr hn), he]
  rfl

theorem reqCounterSetup_of_classMask (he : e.toNat ≤ 0x11) (hcm : 4 ≤ cm.toNat) :
    reqCounterSetup [n, e, cm, qm] s = (s, [0x04, 0x02, 0xFF]) := by
  obtain ⟨ev, hev⟩ := ofCode_of_le he
  rw [reqCounterSetup_of_event hn hev, if_pos hcm]

theorem reqCounterSetup_of_qualMask (he : e.toNat ≤ 0x11) (hcm : cm.toNat ≤ 3) (hqm : 16 ≤ qm.toNat) :
    reqCounterSetup [n, e, cm, qm] s = (s, [0x04, 0x03, 0xFF]) := by
  obtain ⟨ev, hev⟩ := ofCode_of_le he
  rw [reqCounterSetup_of_event hn hev, if_neg (Nat.not_le.mpr (Nat.lt_succ_of_le hcm)), if_pos hqm]

theorem reqCounterSetup_of_fields {ev : EventCode} (he : (ev, e) ∈ eventCodes) (hcm : cm.toNat ≤ 3) (hqm : qm.toNat ≤ 15) :
    reqCounterSetup [n, e, cm, qm] s = ({ s with counters := s.counters.set n.toNat ⟨ev, cm, qm, 0⟩ }, [0x00]) := by
  rw [reqCounterSetup_of_event hn (ofCode_of_mem he), if_neg (Nat.not_le.mpr (Nat.lt_succ_of_le hcm)),
    if_neg (Nat.not_le.mpr (Nat.lt_succ_of_le hqm))]

end Setup

/-! ### COUNTER CLEAR (R183) -/

theorem getElem?_clearCounters (mask : Byte) (first : Nat) (l : List Counter) (n : Nat) : (clearCounters mask first l)[n]? =
    l[n]?.map fun c => if mask.getLsbD (first + n) = true then { c with value := 0 } else c := by
  induction l generalizing first n with
  | nil => rfl
  | cons c cs ih =>
    cases n with
    | zero => rfl
    | succ n => rw [clearCounters, List.getElem?_cons_succ, List.getElem?_cons_succ, ih, Nat.succ_add_eq_add_succ]

theorem reqCounterClear_of_mask {mask : Byte} (h : mask.toNat ≤ 15) (s : State) :
    reqCounterClear [mask] s = ({ s with counters := clearCounters mask 0 s.counters }, [0x00]) :=
  if_neg (Nat.not_le.mpr (Nat.lt_succ_of_le h))

theorem reqCounterClear_of_no_mask {mask : Byte} (h : 16 ≤ mask.toNat) (s : State) :
    reqCounterClear [mask] s = (s, [0x04, 0x00, 0xFF]) := if_pos h

/-- Settles O22: an event counts where its class and qualifier pass, and each case of the two requests is its handler's. -/
theorem countersAreSetUpAndCleared : Obligations.CountersAreSetUpAndCleared := by
  unfold Obligations.CountersAreSetUpAndCleared
  refine ⟨fun e k q c => ⟨offered_of_counts, offered_of_not_counts⟩, fun e k q s => rfl, fun q s hq => ?_⟩
  intro s'
  refine ⟨fun n e cm qm hp => ⟨fun hn ev hev hcm hqm => ?_, fun hn => ?_, fun hn he => ?_, fun hn he hcm => ?_,
    fun hn he hcm hqm => ?_⟩, fun mask hp hmask => ?_, fun mask hp hmask => ?_⟩
  · exact Routes.answer_of_handler 0x1A hq (hp ▸ reqCounterSetup_of_fields hn hev hcm hqm)
  · exact Totes.answer_of_read 0x1A hq (hp ▸ reqCounterSetup_of_no_counter hn)
  · exact Totes.answer_of_read 0x1A hq (hp ▸ reqCounterSetup_of_no_event hn he)
  · exact Totes.answer_of_read 0x1A hq (hp ▸ reqCounterSetup_of_classMask hn he hcm)
  · exact Totes.answer_of_read 0x1A hq (hp ▸ reqCounterSetup_of_qualMask hn he hcm hqm)
  · refine ⟨_, Routes.answer_of_handler 0x1C hq (hp ▸ reqCounterClear_of_mask hmask s'), rfl,
      (Queues.clearCounters_keeps mask 0 s'.counters).1, fun n c hc => ?_⟩
    rw [getElem?_clearCounters, hc, Nat.zero_add]
    rfl
  · exact Totes.answer_of_read 0x1C hq (hp ▸ reqCounterClear_of_no_mask hmask s')

end Sys2Proof.Requests
end

section
/-! The step on a nonempty queue (log 1): the front command is taken off, and its meaning acts on the rest. -/

namespace Sys2Proof.Steps

open Sys2Proof.Machine

variable {s : State} {c : Instr} {rest : List Instr}

/-- The counterpart of `step_of_idle`: a command waits at the front of the queue. -/
theorem step_of_pending (h : s.pending = c :: rest) : step s = exec c { s with pending := rest } := by
  rw [step, h]

/-- Settles O1: of the two branches of a step, a nonempty queue takes the command's. -/
theorem stepTakesFrontCommand : Obligations.StepTakesFrontCommand :=
  fun _ _ _ hpending => step_of_pending hpending

end Sys2Proof.Steps
end
